-- ==== Sys2Proof/Word.lean ====
section
/-! DEFINITION. The widths of the block (00_scope.md R9): bytes, port numbers, physical addresses and
transaction words. Every value is unsigned; there is no signed arithmetic in the block. -/

namespace Sys2Proof

/-- A register or data value, the spec's `u8` (R9). -/
abbrev Byte := BitVec 8

/-- An I/O port number, 0x0000-0xFFFF (10_state.md R22). -/
abbrev Port := BitVec 16

/-- A physical address as a window transaction carries it (30_encoding.md R111). -/
abbrev PhysAddr := BitVec 20

/-- A transaction word (30_encoding.md R110). -/
abbrev Word := BitVec 32

/-- A module, named by its position in `Modules` (10_state.md R21; the registry's `get(index)`,
40_bus.md R161). DESIGN CHOICE, log 4. -/
abbrev ModuleRef := Nat

/-- An IRQ line: the value `k` stands for the line number `k + 1` of [1,16] (10_state.md R25). -/
abbrev Line := Fin 16

end Sys2Proof
end

