-- ==== Sys2Proof/Syntax.lean ====
section
/-! DEFINITION. The transactions of the block, one constructor per row of spec/opcode_table.json
(30_encoding.md R110, R112, R118): port reads and writes, window reads and writes, interface calls.
A call's side operands (R118) are arguments of its constructor. -/

namespace Sys2Proof

/-- A transaction, the block's instruction (00_scope.md R3). -/
inductive Instr where
  /-- `in 0x3B4`: CRTC index (mono), 41_vga_ports.md R183. -/
  | in3B4
  /-- `out 0x3B4, DATA`: CRTC index (mono), 41_vga_ports.md R182. -/
  | out3B4 (data : Byte)
  /-- `in 0x3B5`: CRTC data (mono), 41_vga_ports.md R187. -/
  | in3B5
  /-- `out 0x3B5, DATA`: CRTC data (mono), 41_vga_ports.md R186. -/
  | out3B5 (data : Byte)
  /-- `in 0x3BA`: Input Status 1 (mono), 41_vga_ports.md R184. -/
  | in3BA
  /-- `out 0x3BA, DATA`: Feature Control (mono), 41_vga_ports.md R185. -/
  | out3BA (data : Byte)
  /-- `in 0x3C0`: Attribute address, 41_vga_ports.md R191. -/
  | in3C0
  /-- `out 0x3C0, DATA`: Attribute address/data, 41_vga_ports.md R190. -/
  | out3C0 (data : Byte)
  /-- `in 0x3C1`: Attribute data, 41_vga_ports.md R192. -/
  | in3C1
  /-- `out 0x3C1, DATA`: none, read-only, 41_vga_ports.md R193. -/
  | out3C1 (data : Byte)
  /-- `in 0x3C2`: Input Status 0, 41_vga_ports.md R197. -/
  | in3C2
  /-- `out 0x3C2, DATA`: Misc Output, 41_vga_ports.md R196. -/
  | out3C2 (data : Byte)
  /-- `in 0x3C3`: Video Subsystem Enable, 41_vga_ports.md R199. -/
  | in3C3
  /-- `out 0x3C3, DATA`: Video Subsystem Enable, 41_vga_ports.md R198. -/
  | out3C3 (data : Byte)
  /-- `in 0x3C4`: Sequencer index, 41_vga_ports.md R203. -/
  | in3C4
  /-- `out 0x3C4, DATA`: Sequencer index, 41_vga_ports.md R202. -/
  | out3C4 (data : Byte)
  /-- `in 0x3C5`: Sequencer data, 41_vga_ports.md R205. -/
  | in3C5
  /-- `out 0x3C5, DATA`: Sequencer data, 41_vga_ports.md R204. -/
  | out3C5 (data : Byte)
  /-- `in 0x3C6`: DAC pel mask, 41_vga_ports.md R211. -/
  | in3C6
  /-- `out 0x3C6, DATA`: DAC pel mask, 41_vga_ports.md R210. -/
  | out3C6 (data : Byte)
  /-- `in 0x3C7`: DAC state, 41_vga_ports.md R213. -/
  | in3C7
  /-- `out 0x3C7, DATA`: DAC read address, 41_vga_ports.md R212. -/
  | out3C7 (data : Byte)
  /-- `in 0x3C8`: DAC write address, 41_vga_ports.md R215. -/
  | in3C8
  /-- `out 0x3C8, DATA`: DAC write address, 41_vga_ports.md R214. -/
  | out3C8 (data : Byte)
  /-- `in 0x3C9`: DAC data, 41_vga_ports.md R217. -/
  | in3C9
  /-- `out 0x3C9, DATA`: DAC data, 41_vga_ports.md R216. -/
  | out3C9 (data : Byte)
  /-- `in 0x3CA`: Feature Control, 41_vga_ports.md R220. -/
  | in3CA
  /-- `out 0x3CA, DATA`: none, read-only, 41_vga_ports.md R221. -/
  | out3CA (data : Byte)
  /-- `in 0x3CB`: no register, 41_vga_ports.md R224. -/
  | in3CB
  /-- `out 0x3CB, DATA`: no register, 41_vga_ports.md R225. -/
  | out3CB (data : Byte)
  /-- `in 0x3CC`: Misc Output, 41_vga_ports.md R222. -/
  | in3CC
  /-- `out 0x3CC, DATA`: none, read-only, 41_vga_ports.md R223. -/
  | out3CC (data : Byte)
  /-- `in 0x3CD`: no register, 41_vga_ports.md R224. -/
  | in3CD
  /-- `out 0x3CD, DATA`: no register, 41_vga_ports.md R225. -/
  | out3CD (data : Byte)
  /-- `in 0x3CE`: GC index, 41_vga_ports.md R229. -/
  | in3CE
  /-- `out 0x3CE, DATA`: GC index, 41_vga_ports.md R228. -/
  | out3CE (data : Byte)
  /-- `in 0x3CF`: GC data, 41_vga_ports.md R231. -/
  | in3CF
  /-- `out 0x3CF, DATA`: GC data, 41_vga_ports.md R230. -/
  | out3CF (data : Byte)
  /-- `in 0x3D4`: CRTC index (colour), 41_vga_ports.md R183. -/
  | in3D4
  /-- `out 0x3D4, DATA`: CRTC index (colour), 41_vga_ports.md R182. -/
  | out3D4 (data : Byte)
  /-- `in 0x3D5`: CRTC data (colour), 41_vga_ports.md R187. -/
  | in3D5
  /-- `out 0x3D5, DATA`: CRTC data (colour), 41_vga_ports.md R186. -/
  | out3D5 (data : Byte)
  /-- `in 0x3DA`: Input Status 1 (colour), 41_vga_ports.md R184. -/
  | in3DA
  /-- `out 0x3DA, DATA`: Feature Control (colour), 41_vga_ports.md R185. -/
  | out3DA (data : Byte)
  /-- `in PORT` for a port that is not one of the VGA's 22: 40_bus.md R143, R144. -/
  | inPort (port : Port)
  /-- `out PORT, DATA` for a port that is not one of the VGA's 22: 40_bus.md R145, R146. -/
  | outPort (port : Port) (data : Byte)
  /-- `mrd ADDR`: 42_vga_memory_codec.md R251, R252. -/
  | mrd (addr : PhysAddr)
  /-- `mwr ADDR, DATA`: 42_vga_memory_codec.md R261, R264. -/
  | mwr (addr : PhysAddr) (data : Byte)
  /-- CALL OP 0x01: 40_bus.md R141. -/
  | callBind (port : Port) (mref : ModuleRef)
  /-- CALL OP 0x02: 40_bus.md R148. -/
  | callRequestTimer (mref : ModuleRef) (interval : Int) (active : Bool)
  /-- CALL OP 0x03: 40_bus.md R149. -/
  | callSetTimerActive (mref : ModuleRef) (active : Bool)
  /-- CALL OP 0x04: 40_bus.md R150. -/
  | callResetTimer (mref : ModuleRef) (interval : Int)
  /-- CALL OP 0x05: 40_bus.md R152. -/
  | callTick (tickUs : Nat)
  /-- CALL OP 0x06: 40_bus.md R160. -/
  | callWire
  /-- CALL OP 0x07: 70_reset_and_hazards.md R442. -/
  | callReset
  /-- CALL OP 0x08: 70_reset_and_hazards.md R455. -/
  | callStop
  /-- CALL OP 0x09: 40_bus.md R156. -/
  | callSetUpdateInterval (mref : ModuleRef) (interval : Int)
  /-- CALL OP 0x0A: 40_bus.md R157. -/
  | callGetUpdateInterval (mref : ModuleRef)
  /-- CALL OP 0x10: 44_pic.md R321. -/
  | callRequestIrq (mref : ModuleRef)
  /-- CALL OP 0x11: 44_pic.md R322. -/
  | callSetIrq (line : Byte)
  /-- CALL OP 0x12: 44_pic.md R323. -/
  | callClearIrq (line : Byte)
  /-- CALL OP 0x13: 44_pic.md R324. -/
  | callInta
  /-- CALL OP 0x20: 43_vga_display.md R296. -/
  | callVgaUpdate
  /-- CALL OP 0x21: 43_vga_display.md R291. -/
  | callScreenSize
deriving DecidableEq, Repr

/-- The side operands a call may carry beside its word (30_encoding.md R118). One record holds the
operands of every call; a call reads only its own. DESIGN CHOICE, log 5. -/
structure Side where
  /-- BIND's port. -/
  port : Port := 0
  /-- The module operand. -/
  mref : ModuleRef := 0
  /-- The integer interval; zero or negative values are normalised (40_bus.md R147). -/
  interval : Int := 0
  /-- The active flag. -/
  active : Bool := false
  /-- TICK_US, the clock advance of a TICK. -/
  tickUs : Nat := 0
deriving DecidableEq, Repr

/-- One entry of the transaction stream: a word and its side operands (30_encoding.md R110). -/
structure Transaction where
  word : Word
  side : Side := {}
deriving DecidableEq, Repr

end Sys2Proof
end

