-- ==== Sys2Proof/Machine/Units.lean ====
section
/-! DEFINITION. The plain data of the block's four units (10_state.md): modules and bus, PIC, VGA
adapter, and the log, output and result values. Derived views are functions of Operands.lean and
Flags.lean; operations are in Ops.lean. -/

namespace Sys2Proof.Machine

/-! ### Modules and bus (R21-R24) -/

/-- A module's type identifier: one of the twelve of R21 "or another stable string". -/
inductive ModuleType where
  | cpu | memory | motherboard | pic | pit | rtc | ata | fdc | keyboard | mouse | video | screen
  | other (name : String)
deriving DecidableEq, Repr

/-- A module (R21). -/
structure Module where
  /-- Type identifier. -/
  kind : ModuleType
  /-- Required-connection list. -/
  required : List ModuleType
  /-- Set by the wiring pass (40_bus.md R160). -/
  connected : Bool
  /-- Debug flag; changes no device state (60_exceptions.md R415). -/
  debug : Bool
deriving DecidableEq, Repr

/-- A timer entry (R23). -/
structure Timer where
  owner : ModuleRef
  /-- Microseconds, at least 1. -/
  interval : Nat
  active : Bool
  /-- Microseconds accumulated since the last firing. -/
  acc : Nat
deriving DecidableEq, Repr

/-- Bus state (40_bus.md R140). -/
structure Bus where
  /-- Port number to owning module, port numbers strictly rising (R22). -/
  portMap : List (Nat × ModuleRef)
  /-- Registration order (R23). -/
  timers : List Timer
  /-- Virtual microseconds (R24). -/
  clock : Nat
deriving DecidableEq, Repr

/-! ### PIC (R25) -/

/-- PIC state: the owner and the raised flag of each line. -/
structure Pic where
  owner : Vector (Option ModuleRef) 16
  raised : Vector Bool 16
deriving DecidableEq, Repr

/-! ### VGA adapter (R27-R42) -/

/-- The Attribute Controller's flip-flop (R36). -/
inductive AcFlip where
  | address
  | data
deriving DecidableEq, Repr

/-- The DAC's state flag: which address register was written last (R38). -/
inductive DacState where
  | read
  | write
deriving DecidableEq, Repr

/-- Video memory: the bytes written since power-on, keyed by plane * 65536 + index. An address that is
not listed holds its power-on draw (INIT_VRAM, R40). Log 9. -/
abbrev Memory := List (Nat × Byte)

/-- A tile of the screen grid (R41). -/
structure Tile where
  col : Nat
  row : Nat
deriving DecidableEq, Repr

/-- The VGA adapter. -/
structure Vga where
  /-- Miscellaneous Output (R27). -/
  misc : Byte
  /-- Feature Control (R28). -/
  featureCtl : Byte
  /-- Video Subsystem Enable (R28). -/
  subsysEnable : Byte
  /-- Sequencer (R29). -/
  seqIndex : Byte
  seq : Vector Byte 5
  /-- CRT Controller (R31). -/
  crtcIndex : Byte
  crtc : Vector Byte 25
  /-- Graphics Controller and its latches (R34). -/
  gcIndex : Byte
  gc : Vector Byte 9
  latch : Vector Byte 4
  /-- Attribute Controller (R36). -/
  acFlip : AcFlip
  acIndex : BitVec 5
  acPas : BitVec 1
  ac : Vector Byte 21
  /-- DAC (R38). -/
  pelMask : Byte
  dacWAddr : Byte
  dacWPhase : Fin 3
  dacRAddr : Byte
  dacRPhase : Fin 3
  dacState : DacState
  palette : Vector (Vector Byte 3) 256
  /-- The four planes (R40). -/
  planes : Memory
  /-- The tiles of the grid that are NOT dirty, in row-major order: `Dirty[c][r]` is true exactly for
  the grid's other tiles (R41). Log 21. -/
  clean : List Tile
  /-- The size last announced to the screen (R42). -/
  lastSize : Option (Nat × Nat)
deriving DecidableEq, Repr

/-- The adapter after power-on and after RESET, over the given video memory: the values of
70_reset_and_hazards.md R447. RESET keeps the memory (R443). -/
def vgaResetValue (planes : Memory) : Vga where
  misc := 0x01
  featureCtl := 0x00
  subsysEnable := 0x00
  seqIndex := 0x00
  seq := Vector.replicate 5 0x00
  crtcIndex := 0x00
  crtc := Vector.replicate 25 0x00
  gcIndex := 0x00
  gc := Vector.replicate 9 0x00
  latch := Vector.replicate 4 0x00
  acFlip := .address
  acIndex := 0
  acPas := 0
  ac := Vector.replicate 21 0x00
  pelMask := 0xFF
  dacWAddr := 0x00
  dacWPhase := 0
  dacRAddr := 0x00
  dacRPhase := 0
  dacState := .write
  palette := Vector.replicate 256 (Vector.replicate 3 0x00)
  planes := planes
  clean := []
  lastSize := none

/-! ### Log (60_exceptions.md R401), outputs (R47), results -/

/-- A step of the orchestrator's boot sequence (70_reset_and_hazards.md R450). -/
inductive SetupStep where
  | createModules | wire | pushTiming | resetModules | initScreen | mouseMemoryParameters
  | loadBios | storageParameters | bootOrder | debugFlags
deriving DecidableEq, Repr

/-- A register bank with an index register (20_memory.md R80). -/
inductive Bank where
  | sequencer | crtc | graphics | attrCtl
deriving DecidableEq, Repr

/-- A diagnostic event with the information R401 records. -/
inductive LogEvent where
  /-- (a) a setup step failed. -/
  | config (step : SetupStep)
  /-- (a) bind of a port already bound to another module: port, old owner, new module. -/
  | bindConflict (port : Port) (old new : ModuleRef)
  /-- (b) access to a port no module owns, with the value of a write. -/
  | unboundPort (port : Port) (value : Option Byte)
  /-- (b) VGA port of the inactive mono/colour group. -/
  | modeMismatch (port : Port)
  /-- (b) write to a read-only VGA port. -/
  | roPort (port : Port) (value : Byte)
  /-- (b) access to 0x3CB or 0x3CD. -/
  | noRegister (port : Port)
  /-- (b) data access with the bank's index out of range. -/
  | badIndex (bank : Bank) (index : Byte)
  /-- (b) CRTC write to 0x00-0x07 while protected. -/
  | protectedIndex (index : Byte)
  /-- (b) timer call for a module with no timer. -/
  | noTimer (mref : ModuleRef)
  /-- (b) no free line in IRQ_POOL. -/
  | irqExhausted (mref : ModuleRef)
  /-- (b) set or clear of a number outside [1,16] or unowned. -/
  | irqInvalid (number : Byte)
  /-- (c) a required connection is missing: module, missing types. -/
  | wiring (mref : ModuleRef) (missing : List ModuleType)
  /-- (d) a module reports a mid-session error. -/
  | device (mref : ModuleRef)
deriving DecidableEq, Repr

/-- Host pixels as RENDER returns them (43_vga_display.md R301); the spec gives them no structure. -/
abbrev Pixels := List Nat

/-- An event to a collaborator (10_state.md R47). -/
inductive OutEvent where
  | update (mref : ModuleRef)
  | resize (width height : Nat)
  | tileRedraw (tile : Tile) (pixels : Pixels)
  | textRedraw (start : BitVec 16) (cursor : Option (Nat × Nat)) (cols rows : Nat) (pixels : Pixels)
  | fontWrite (offset : Nat) (value : Byte)
deriving DecidableEq, Repr

/-- What RENDER is asked for: a tile, or the text screen (43_vga_display.md R298, R299). -/
inductive RenderTarget where
  | tile (t : Tile)
  | text
deriving DecidableEq, Repr

/-- What a transaction returns to its caller (30_encoding.md R118, 40_bus.md R143). Log 6. -/
inductive Result where
  /-- The transaction returns nothing. -/
  | unit
  | byte (b : Byte)
  | bool (b : Bool)
  | nat (n : Nat)
  /-- A line number, or NONE. -/
  | line (n : Option Line)
  | size (width height : Nat)
deriving DecidableEq, Repr

/-! ### What other modules may do inside a transaction -/

/-- What another module's `update()` may do to this block: the six calls of 40_bus.md R153, and a report
of a mid-session error (60_exceptions.md R403). -/
inductive UpdateCall where
  | setIrq (number : Byte)
  | clearIrq (number : Byte)
  | requestIrq (mref : ModuleRef)
  | setTimerActive (mref : ModuleRef) (active : Bool)
  | resetTimer (mref : ModuleRef) (interval : Int)
  | requestTimer (mref : ModuleRef) (interval : Int) (active : Bool)
  /-- The updating module reports an error. -/
  | reportError
deriving DecidableEq, Repr

/-- A call another module's reset may make (70_reset_and_hazards.md R442). -/
inductive ResetCall where
  | bind (port : Port) (mref : ModuleRef)
  | requestTimer (mref : ModuleRef) (interval : Int) (active : Bool)
  | requestIrq (mref : ModuleRef)
deriving DecidableEq, Repr

end Sys2Proof.Machine
end

