-- ==== Sys2Proof/Config.lean ====
section
/-! DEFINITION. What an implementation fixes and the spec leaves open (00_scope.md R7), and the free
values it draws (R8). Every operation takes a `Params`; the machine runs under `Config.params`, an
opaque constant, so that no proof can see a value of it. Log 7, log 8. -/

namespace Sys2Proof

/-- Whether acknowledge clears a line (44_pic.md R324). -/
inductive Trigger where
  | edge
  | level
deriving DecidableEq, Repr, Inhabited

/-- The two readings of a chain-four store (42_vga_memory_codec.md R263). -/
inductive Chain4Write where
  | raw
  | pipeline
deriving DecidableEq, Repr, Inhabited

/-- The OPEN parameters of R7, then the draws of R8. A draw takes the number of draws made before it,
so that every draw is a value of its own. -/
structure Params where
  /-- DEFAULT_INTERVAL_US(module), at least 1. -/
  defaultIntervalUs : ModuleRef → ℕ+
  /-- VGA_UPDATE_INTERVAL_US, at least 1. -/
  vgaUpdateIntervalUs : ℕ+
  /-- IRQ_POOL before repeated lines are dropped; `Params.irqPool` is the ordered list of distinct lines. -/
  irqPoolRaw : List Line
  /-- TRIGGER(line). -/
  trigger : Line → Trigger
  /-- VECTOR(line), a service address (44_pic.md R325). -/
  vector : Line → Byte
  /-- DAC_READ_XFORM (41_vga_ports.md R217). -/
  dacReadXform : Byte → Byte
  /-- CHAIN4_WRITE. -/
  chain4Write : Chain4Write
  /-- X_TILESIZE, in pixels. -/
  xTileSize : ℕ+
  /-- Y_TILESIZE, in pixels. -/
  yTileSize : ℕ+
  /-- GRID_COLS, in tiles. -/
  gridCols : ℕ+
  /-- GRID_ROWS, in tiles. -/
  gridRows : ℕ+
  /-- SIG_320x240, a predicate on the CRTC register file (43_vga_display.md R291). -/
  sig320x240 : Vector Byte 25 → Bool
  /-- RENDER (43_vga_display.md R301). -/
  render : Machine.Vga → Machine.RenderTarget → Machine.Pixels
  /-- Draw: INIT_VRAM, by plane * 65536 + index (10_state.md R40). -/
  initVram : Nat → Byte
  /-- Draw: a byte (out-of-range data read, Input Status 0, the bits of Input Status 1, another
  module's port answer). -/
  drawByte : Nat → Byte
  /-- Draw: what another module's `update()` does to the block, in order (40_bus.md R153). -/
  updateCalls : Nat → List Machine.UpdateCall
  /-- Draw: whether another module's port handler reports a mid-session error (60_exceptions.md R403). -/
  deviceError : Nat → Bool
  /-- Draw: the calls another module's reset makes (70_reset_and_hazards.md R442). -/
  resetCalls : Nat → List Machine.ResetCall
  /-- Draw: the bool another module's reset returns when none of its binds conflicts. -/
  resetOk : Nat → Bool
deriving Inhabited

/-- IRQ_POOL: an ordered list of distinct line numbers in [1,16]. -/
def Params.irqPool (C : Params) : List Line := C.irqPoolRaw.dedup

/-- The implementation's parameters and draws. No body: nothing can evaluate it or prove a value of
it, so a claim holds for every choice (R7, R8). -/
opaque Config.params : Params

end Sys2Proof
end

