-- ==== Sys2Proof/WellFormed.lean ====
section
/-! DEFINITION. The checks a transaction passes to be the one its row of opcode_table.json names. -/

namespace Sys2Proof

/-- The 22 ports the VGA binds, in ascending order (30_encoding.md R112; the binding order of
70_reset_and_hazards.md R443). -/
def vgaPorts : List Port :=
  [0x3B4, 0x3B5, 0x3BA, 0x3C0, 0x3C1, 0x3C2, 0x3C3, 0x3C4, 0x3C5, 0x3C6, 0x3C7,
   0x3C8, 0x3C9, 0x3CA, 0x3CB, 0x3CC, 0x3CD, 0x3CE, 0x3CF, 0x3D4, 0x3D5, 0x3DA]

/-- The first address of the range window transactions may carry (30_encoding.md R114). -/
def windowFirst : PhysAddr := 0xA0000

/-- The last address of the range window transactions may carry (30_encoding.md R114). -/
def windowLast : PhysAddr := 0xBFFFF

/-- `ADDR in 0xA0000-0xBFFFF` (30_encoding.md R114). -/
def inWindowRange (a : PhysAddr) : Bool := windowFirst.ule a && a.ule windowLast

/-- A transaction is well formed when its operands are ones its row admits: the generic port rows stand
for the ports outside the VGA's 22 (30_encoding.md R113), window transactions carry an address of
0xA0000-0xBFFFF (R114, R120). Every other operand value is legal (R121). -/
def Instr.wellFormed : Instr → Bool
  | .in3B4 => true
  | .out3B4 _ => true
  | .in3B5 => true
  | .out3B5 _ => true
  | .in3BA => true
  | .out3BA _ => true
  | .in3C0 => true
  | .out3C0 _ => true
  | .in3C1 => true
  | .out3C1 _ => true
  | .in3C2 => true
  | .out3C2 _ => true
  | .in3C3 => true
  | .out3C3 _ => true
  | .in3C4 => true
  | .out3C4 _ => true
  | .in3C5 => true
  | .out3C5 _ => true
  | .in3C6 => true
  | .out3C6 _ => true
  | .in3C7 => true
  | .out3C7 _ => true
  | .in3C8 => true
  | .out3C8 _ => true
  | .in3C9 => true
  | .out3C9 _ => true
  | .in3CA => true
  | .out3CA _ => true
  | .in3CB => true
  | .out3CB _ => true
  | .in3CC => true
  | .out3CC _ => true
  | .in3CD => true
  | .out3CD _ => true
  | .in3CE => true
  | .out3CE _ => true
  | .in3CF => true
  | .out3CF _ => true
  | .in3D4 => true
  | .out3D4 _ => true
  | .in3D5 => true
  | .out3D5 _ => true
  | .in3DA => true
  | .out3DA _ => true
  | .inPort p => !vgaPorts.contains p
  | .outPort p _ => !vgaPorts.contains p
  | .mrd a => inWindowRange a
  | .mwr a _ => inWindowRange a
  | .callBind _ _ => true
  | .callRequestTimer _ _ _ => true
  | .callSetTimerActive _ _ => true
  | .callResetTimer _ _ => true
  | .callTick _ => true
  | .callWire => true
  | .callReset => true
  | .callStop => true
  | .callSetUpdateInterval _ _ => true
  | .callGetUpdateInterval _ => true
  | .callRequestIrq _ => true
  | .callSetIrq _ => true
  | .callClearIrq _ => true
  | .callInta => true
  | .callVgaUpdate => true
  | .callScreenSize => true

end Sys2Proof
end

