-- ==== Sys2Proof/Decode.lean ====
section
/-! DEFINITION. The decoder of a transaction word (30_encoding.md R110, R111, R120), total, refusing
by name, and the encoder written from the same tables. After them: the pseudo-instructions and the
splitting of wider accesses (R126, 20_memory.md R85), and the assembly text (R125). -/

namespace Sys2Proof

/-- Why the decoder refuses a word: the reserved encodings of 30_encoding.md R120. Each is a
refusal, safe: the model takes no step on such a word. -/
inductive DecodeError where
  /-- KIND not in (0x1, 0x2, 0x3, 0x4, 0x8). -/
  | reservedKind
  /-- IOR, IOW or CALL with T[27:24] != 0. -/
  | reservedHighBits
  /-- IOR, MR or CALL with T[7:0] != 0. -/
  | reservedLowByte
  /-- CALL with an OP not in R118. -/
  | unknownOp
  /-- CALL with ARG != 0 for an OP other than SET_IRQ and CLEAR_IRQ. -/
  | reservedArg
  /-- MR or MW with ADDR outside 0xA0000-0xBFFFF. -/
  | addrOutOfRange
deriving DecidableEq, Repr

/-! ### The fields of a word (R110, R111) -/

/-- T[31:28]. -/
def wordKind (w : Word) : BitVec 4 := w.extractLsb' 28 4
/-- T[27:24], reserved in IOR, IOW and CALL. -/
def wordHigh (w : Word) : BitVec 4 := w.extractLsb' 24 4
/-- PORT = T[23:8]. -/
def wordPort (w : Word) : Port := w.extractLsb' 8 16
/-- ADDR = T[27:8]. -/
def wordAddr (w : Word) : PhysAddr := w.extractLsb' 8 20
/-- DATA = T[7:0]. -/
def wordData (w : Word) : Byte := w.extractLsb' 0 8
/-- OP = T[23:16]. -/
def wordOp (w : Word) : Byte := w.extractLsb' 16 8
/-- ARG = T[15:8]. -/
def wordArg (w : Word) : Byte := w.extractLsb' 8 8

/-! ### Decoding -/

/-- The row of a port read: one of the 22 VGA rows, else the generic one (R112, R113). -/
def portReadInstr (p : Port) : Instr :=
  match p with
  | 0x3B4#16 => .in3B4
  | 0x3B5#16 => .in3B5
  | 0x3BA#16 => .in3BA
  | 0x3C0#16 => .in3C0
  | 0x3C1#16 => .in3C1
  | 0x3C2#16 => .in3C2
  | 0x3C3#16 => .in3C3
  | 0x3C4#16 => .in3C4
  | 0x3C5#16 => .in3C5
  | 0x3C6#16 => .in3C6
  | 0x3C7#16 => .in3C7
  | 0x3C8#16 => .in3C8
  | 0x3C9#16 => .in3C9
  | 0x3CA#16 => .in3CA
  | 0x3CB#16 => .in3CB
  | 0x3CC#16 => .in3CC
  | 0x3CD#16 => .in3CD
  | 0x3CE#16 => .in3CE
  | 0x3CF#16 => .in3CF
  | 0x3D4#16 => .in3D4
  | 0x3D5#16 => .in3D5
  | 0x3DA#16 => .in3DA
  | _ => .inPort p

/-- The row of a port write: one of the 22 VGA rows, else the generic one (R112, R113). -/
def portWriteInstr (p : Port) (data : Byte) : Instr :=
  match p with
  | 0x3B4#16 => .out3B4 data
  | 0x3B5#16 => .out3B5 data
  | 0x3BA#16 => .out3BA data
  | 0x3C0#16 => .out3C0 data
  | 0x3C1#16 => .out3C1 data
  | 0x3C2#16 => .out3C2 data
  | 0x3C3#16 => .out3C3 data
  | 0x3C4#16 => .out3C4 data
  | 0x3C5#16 => .out3C5 data
  | 0x3C6#16 => .out3C6 data
  | 0x3C7#16 => .out3C7 data
  | 0x3C8#16 => .out3C8 data
  | 0x3C9#16 => .out3C9 data
  | 0x3CA#16 => .out3CA data
  | 0x3CB#16 => .out3CB data
  | 0x3CC#16 => .out3CC data
  | 0x3CD#16 => .out3CD data
  | 0x3CE#16 => .out3CE data
  | 0x3CF#16 => .out3CF data
  | 0x3D4#16 => .out3D4 data
  | 0x3D5#16 => .out3D5 data
  | 0x3DA#16 => .out3DA data
  | _ => .outPort p data

/-- The row of a call (R118). `arg` is a line number for SET_IRQ and CLEAR_IRQ and 0 for every other
OP (R120). -/
def decodeCall (op arg : Byte) (x : Side) : Except DecodeError Instr :=
  match op with
  | 0x11#8 => .ok (.callSetIrq arg)
  | 0x12#8 => .ok (.callClearIrq arg)
  | 0x01#8 => if arg = 0 then .ok (.callBind x.port x.mref) else .error .reservedArg
  | 0x02#8 => if arg = 0 then .ok (.callRequestTimer x.mref x.interval x.active) else .error .reservedArg
  | 0x03#8 => if arg = 0 then .ok (.callSetTimerActive x.mref x.active) else .error .reservedArg
  | 0x04#8 => if arg = 0 then .ok (.callResetTimer x.mref x.interval) else .error .reservedArg
  | 0x05#8 => if arg = 0 then .ok (.callTick x.tickUs) else .error .reservedArg
  | 0x06#8 => if arg = 0 then .ok .callWire else .error .reservedArg
  | 0x07#8 => if arg = 0 then .ok .callReset else .error .reservedArg
  | 0x08#8 => if arg = 0 then .ok .callStop else .error .reservedArg
  | 0x09#8 => if arg = 0 then .ok (.callSetUpdateInterval x.mref x.interval) else .error .reservedArg
  | 0x0A#8 => if arg = 0 then .ok (.callGetUpdateInterval x.mref) else .error .reservedArg
  | 0x10#8 => if arg = 0 then .ok (.callRequestIrq x.mref) else .error .reservedArg
  | 0x13#8 => if arg = 0 then .ok .callInta else .error .reservedArg
  | 0x20#8 => if arg = 0 then .ok .callVgaUpdate else .error .reservedArg
  | 0x21#8 => if arg = 0 then .ok .callScreenSize else .error .reservedArg
  | _ => .error .unknownOp

/-- Decode one entry of the stream (R110, R111, R120). -/
def decode (t : Transaction) : Except DecodeError Instr :=
  let w := t.word
  match wordKind w with
  | 0x1#4 =>
    if wordHigh w ≠ 0 then .error .reservedHighBits
    else if wordData w ≠ 0 then .error .reservedLowByte
    else .ok (portReadInstr (wordPort w))
  | 0x2#4 =>
    if wordHigh w ≠ 0 then .error .reservedHighBits
    else .ok (portWriteInstr (wordPort w) (wordData w))
  | 0x3#4 =>
    if wordData w ≠ 0 then .error .reservedLowByte
    else if inWindowRange (wordAddr w) then .ok (.mrd (wordAddr w))
    else .error .addrOutOfRange
  | 0x4#4 =>
    if inWindowRange (wordAddr w) then .ok (.mwr (wordAddr w) (wordData w))
    else .error .addrOutOfRange
  | 0x8#4 =>
    if wordHigh w ≠ 0 then .error .reservedHighBits
    else if wordData w ≠ 0 then .error .reservedLowByte
    else decodeCall (wordOp w) (wordArg w) t.side
  | _ => .error .reservedKind

/-- The host's question: what the decoder reads from an opcode-table word of `nbits` bits. The
stream's unit is the 32-bit word, so there is no byte order to lay out; side operands are zeros. -/
def decodeTableWord (nbits w : Nat) : Option Instr :=
  match decode (Transaction.mk (BitVec.ofNat 32 (w % 2 ^ nbits)) (Side.mk 0 0 0 false 0)) with
  | .ok i => some i
  | .error _ => none

/-! ### Encoding (R110, R125) -/

/-- A word from its KIND, the value of T[27:8] and T[7:0]: `KIND << 28 | MID << 8 | LOW`. -/
def packWord (kind mid low : Nat) : Word := BitVec.ofNat 32 (kind * 2 ^ 28 + mid * 2 ^ 8 + low)

/-- The word of `in PORT`. -/
def iorWord (p : Port) : Word := packWord 0x1 p.toNat 0
/-- The word of `out PORT, DATA`. -/
def iowWord (p : Port) (data : Byte) : Word := packWord 0x2 p.toNat data.toNat
/-- The word of `mrd ADDR`. -/
def mrWord (a : PhysAddr) : Word := packWord 0x3 a.toNat 0
/-- The word of `mwr ADDR, DATA`. -/
def mwWord (a : PhysAddr) (data : Byte) : Word := packWord 0x4 a.toNat data.toNat
/-- The word of a call: `0x8 << 28 | OP << 16 | ARG << 8`. -/
def callWord (op arg : Byte) : Word := packWord 0x8 (op.toNat * 2 ^ 8 + arg.toNat) 0

/-- The stream entry of a transaction; side operands a call does not have are zeros. -/
def encode : Instr → Transaction
  | .in3B4 => .mk (iorWord 0x3B4) (.mk 0 0 0 false 0)
  | .out3B4 d => .mk (iowWord 0x3B4 d) (.mk 0 0 0 false 0)
  | .in3B5 => .mk (iorWord 0x3B5) (.mk 0 0 0 false 0)
  | .out3B5 d => .mk (iowWord 0x3B5 d) (.mk 0 0 0 false 0)
  | .in3BA => .mk (iorWord 0x3BA) (.mk 0 0 0 false 0)
  | .out3BA d => .mk (iowWord 0x3BA d) (.mk 0 0 0 false 0)
  | .in3C0 => .mk (iorWord 0x3C0) (.mk 0 0 0 false 0)
  | .out3C0 d => .mk (iowWord 0x3C0 d) (.mk 0 0 0 false 0)
  | .in3C1 => .mk (iorWord 0x3C1) (.mk 0 0 0 false 0)
  | .out3C1 d => .mk (iowWord 0x3C1 d) (.mk 0 0 0 false 0)
  | .in3C2 => .mk (iorWord 0x3C2) (.mk 0 0 0 false 0)
  | .out3C2 d => .mk (iowWord 0x3C2 d) (.mk 0 0 0 false 0)
  | .in3C3 => .mk (iorWord 0x3C3) (.mk 0 0 0 false 0)
  | .out3C3 d => .mk (iowWord 0x3C3 d) (.mk 0 0 0 false 0)
  | .in3C4 => .mk (iorWord 0x3C4) (.mk 0 0 0 false 0)
  | .out3C4 d => .mk (iowWord 0x3C4 d) (.mk 0 0 0 false 0)
  | .in3C5 => .mk (iorWord 0x3C5) (.mk 0 0 0 false 0)
  | .out3C5 d => .mk (iowWord 0x3C5 d) (.mk 0 0 0 false 0)
  | .in3C6 => .mk (iorWord 0x3C6) (.mk 0 0 0 false 0)
  | .out3C6 d => .mk (iowWord 0x3C6 d) (.mk 0 0 0 false 0)
  | .in3C7 => .mk (iorWord 0x3C7) (.mk 0 0 0 false 0)
  | .out3C7 d => .mk (iowWord 0x3C7 d) (.mk 0 0 0 false 0)
  | .in3C8 => .mk (iorWord 0x3C8) (.mk 0 0 0 false 0)
  | .out3C8 d => .mk (iowWord 0x3C8 d) (.mk 0 0 0 false 0)
  | .in3C9 => .mk (iorWord 0x3C9) (.mk 0 0 0 false 0)
  | .out3C9 d => .mk (iowWord 0x3C9 d) (.mk 0 0 0 false 0)
  | .in3CA => .mk (iorWord 0x3CA) (.mk 0 0 0 false 0)
  | .out3CA d => .mk (iowWord 0x3CA d) (.mk 0 0 0 false 0)
  | .in3CB => .mk (iorWord 0x3CB) (.mk 0 0 0 false 0)
  | .out3CB d => .mk (iowWord 0x3CB d) (.mk 0 0 0 false 0)
  | .in3CC => .mk (iorWord 0x3CC) (.mk 0 0 0 false 0)
  | .out3CC d => .mk (iowWord 0x3CC d) (.mk 0 0 0 false 0)
  | .in3CD => .mk (iorWord 0x3CD) (.mk 0 0 0 false 0)
  | .out3CD d => .mk (iowWord 0x3CD d) (.mk 0 0 0 false 0)
  | .in3CE => .mk (iorWord 0x3CE) (.mk 0 0 0 false 0)
  | .out3CE d => .mk (iowWord 0x3CE d) (.mk 0 0 0 false 0)
  | .in3CF => .mk (iorWord 0x3CF) (.mk 0 0 0 false 0)
  | .out3CF d => .mk (iowWord 0x3CF d) (.mk 0 0 0 false 0)
  | .in3D4 => .mk (iorWord 0x3D4) (.mk 0 0 0 false 0)
  | .out3D4 d => .mk (iowWord 0x3D4 d) (.mk 0 0 0 false 0)
  | .in3D5 => .mk (iorWord 0x3D5) (.mk 0 0 0 false 0)
  | .out3D5 d => .mk (iowWord 0x3D5 d) (.mk 0 0 0 false 0)
  | .in3DA => .mk (iorWord 0x3DA) (.mk 0 0 0 false 0)
  | .out3DA d => .mk (iowWord 0x3DA d) (.mk 0 0 0 false 0)
  | .inPort p => .mk (iorWord p) (.mk 0 0 0 false 0)
  | .outPort p d => .mk (iowWord p d) (.mk 0 0 0 false 0)
  | .mrd a => .mk (mrWord a) (.mk 0 0 0 false 0)
  | .mwr a d => .mk (mwWord a d) (.mk 0 0 0 false 0)
  | .callBind port mref => .mk (callWord 0x01 0x00) (.mk port mref 0 false 0)
  | .callRequestTimer mref interval active => .mk (callWord 0x02 0x00) (.mk 0 mref interval active 0)
  | .callSetTimerActive mref active => .mk (callWord 0x03 0x00) (.mk 0 mref 0 active 0)
  | .callResetTimer mref interval => .mk (callWord 0x04 0x00) (.mk 0 mref interval false 0)
  | .callTick tickUs => .mk (callWord 0x05 0x00) (.mk 0 0 0 false tickUs)
  | .callWire => .mk (callWord 0x06 0x00) (.mk 0 0 0 false 0)
  | .callReset => .mk (callWord 0x07 0x00) (.mk 0 0 0 false 0)
  | .callStop => .mk (callWord 0x08 0x00) (.mk 0 0 0 false 0)
  | .callSetUpdateInterval mref interval => .mk (callWord 0x09 0x00) (.mk 0 mref interval false 0)
  | .callGetUpdateInterval mref => .mk (callWord 0x0A 0x00) (.mk 0 mref 0 false 0)
  | .callRequestIrq mref => .mk (callWord 0x10 0x00) (.mk 0 mref 0 false 0)
  | .callSetIrq line => .mk (callWord 0x11 line) (.mk 0 0 0 false 0)
  | .callClearIrq line => .mk (callWord 0x12 line) (.mk 0 0 0 false 0)
  | .callInta => .mk (callWord 0x13 0x00) (.mk 0 0 0 false 0)
  | .callVgaUpdate => .mk (callWord 0x20 0x00) (.mk 0 0 0 false 0)
  | .callScreenSize => .mk (callWord 0x21 0x00) (.mk 0 0 0 false 0)

/-! ### Wider accesses and pseudo-instructions (20_memory.md R85, 30_encoding.md R126)

A wider access is a list of byte transactions in ascending order, least significant byte at the
lowest port or address. The next port after 0xFFFF and the next address after 0xFFFFF wrap.
DESIGN CHOICE for the wrap only, log 26. -/

/-- A port write of the bytes `ds`, least significant first. -/
def widePortWrite : Port → List Byte → List Instr
  | _, [] => []
  | p, d :: ds => portWriteInstr p d :: widePortWrite (p + 1) ds

/-- A port read of `n` bytes. -/
def widePortRead : Port → Nat → List Instr
  | _, 0 => []
  | p, n + 1 => portReadInstr p :: widePortRead (p + 1) n

/-- A window write of the bytes `ds`, least significant first; each byte is window-checked on its own
(20_memory.md R86). -/
def wideMemWrite : PhysAddr → List Byte → List Instr
  | _, [] => []
  | a, d :: ds => .mwr a d :: wideMemWrite (a + 1) ds

/-- A window read of `n` bytes. -/
def wideMemRead : PhysAddr → Nat → List Instr
  | _, 0 => []
  | a, n + 1 => .mrd a :: wideMemRead (a + 1) n

/-- The bytes of a 16-bit value, least significant first. -/
def wordBytes (w : BitVec 16) : List Byte := [w.extractLsb' 0 8, w.extractLsb' 8 8]

/-- `outw PORT, W`. -/
def pseudoOutw (p : Port) (w : BitVec 16) : List Instr := widePortWrite p (wordBytes w)
/-- `mww ADDR, W`. -/
def pseudoMww (a : PhysAddr) (w : BitVec 16) : List Instr := wideMemWrite a (wordBytes w)
/-- `seq IDX, V`. -/
def pseudoSeq (idx v : Byte) : List Instr := [.out3C4 idx, .out3C5 v]
/-- `gc IDX, V`. -/
def pseudoGc (idx v : Byte) : List Instr := [.out3CE idx, .out3CF v]
/-- `crtc IDX, V` (colour addressing). -/
def pseudoCrtc (idx v : Byte) : List Instr := [.out3D4 idx, .out3D5 v]
/-- `att IDX, V`. -/
def pseudoAtt (idx v : Byte) : List Instr := [.in3DA, .out3C0 idx, .out3C0 v]
/-- `dacw A, R, G, B`. -/
def pseudoDacw (a r g b : Byte) : List Instr := [.out3C8 a, .out3C9 r, .out3C9 g, .out3C9 b]
/-- `dacr A`. -/
def pseudoDacr (a : Byte) : List Instr := [.out3C7 a, .in3C9, .in3C9, .in3C9]

/-! ### Assembly text (30_encoding.md R125) -/

/-- A number in hexadecimal, as R125 writes it. -/
def hexText (n : Nat) : String := "0x" ++ String.ofList ((Nat.toDigits 16 n).map Char.toUpper)

/-- The assembly line of a transaction (R125). Numbers are hexadecimal; the side operands of a call
follow a semicolon in the order of R118. -/
def asmText : Instr → String
  | .in3B4 => "in 0x3B4"
  | .out3B4 d => "out 0x3B4, " ++ hexText d.toNat
  | .in3B5 => "in 0x3B5"
  | .out3B5 d => "out 0x3B5, " ++ hexText d.toNat
  | .in3BA => "in 0x3BA"
  | .out3BA d => "out 0x3BA, " ++ hexText d.toNat
  | .in3C0 => "in 0x3C0"
  | .out3C0 d => "out 0x3C0, " ++ hexText d.toNat
  | .in3C1 => "in 0x3C1"
  | .out3C1 d => "out 0x3C1, " ++ hexText d.toNat
  | .in3C2 => "in 0x3C2"
  | .out3C2 d => "out 0x3C2, " ++ hexText d.toNat
  | .in3C3 => "in 0x3C3"
  | .out3C3 d => "out 0x3C3, " ++ hexText d.toNat
  | .in3C4 => "in 0x3C4"
  | .out3C4 d => "out 0x3C4, " ++ hexText d.toNat
  | .in3C5 => "in 0x3C5"
  | .out3C5 d => "out 0x3C5, " ++ hexText d.toNat
  | .in3C6 => "in 0x3C6"
  | .out3C6 d => "out 0x3C6, " ++ hexText d.toNat
  | .in3C7 => "in 0x3C7"
  | .out3C7 d => "out 0x3C7, " ++ hexText d.toNat
  | .in3C8 => "in 0x3C8"
  | .out3C8 d => "out 0x3C8, " ++ hexText d.toNat
  | .in3C9 => "in 0x3C9"
  | .out3C9 d => "out 0x3C9, " ++ hexText d.toNat
  | .in3CA => "in 0x3CA"
  | .out3CA d => "out 0x3CA, " ++ hexText d.toNat
  | .in3CB => "in 0x3CB"
  | .out3CB d => "out 0x3CB, " ++ hexText d.toNat
  | .in3CC => "in 0x3CC"
  | .out3CC d => "out 0x3CC, " ++ hexText d.toNat
  | .in3CD => "in 0x3CD"
  | .out3CD d => "out 0x3CD, " ++ hexText d.toNat
  | .in3CE => "in 0x3CE"
  | .out3CE d => "out 0x3CE, " ++ hexText d.toNat
  | .in3CF => "in 0x3CF"
  | .out3CF d => "out 0x3CF, " ++ hexText d.toNat
  | .in3D4 => "in 0x3D4"
  | .out3D4 d => "out 0x3D4, " ++ hexText d.toNat
  | .in3D5 => "in 0x3D5"
  | .out3D5 d => "out 0x3D5, " ++ hexText d.toNat
  | .in3DA => "in 0x3DA"
  | .out3DA d => "out 0x3DA, " ++ hexText d.toNat
  | .inPort p => "in " ++ hexText p.toNat
  | .outPort p d => "out " ++ hexText p.toNat ++ ", " ++ hexText d.toNat
  | .mrd a => "mrd " ++ hexText a.toNat
  | .mwr a d => "mwr " ++ hexText a.toNat ++ ", " ++ hexText d.toNat
  | .callBind port mref => "call bind ; " ++ hexText port.toNat ++ ", " ++ toString mref
  | .callRequestTimer mref interval active => "call request_timer ; " ++ toString mref ++ ", " ++ toString interval ++ ", " ++ toString active
  | .callSetTimerActive mref active => "call set_timer_active ; " ++ toString mref ++ ", " ++ toString active
  | .callResetTimer mref interval => "call reset_timer ; " ++ toString mref ++ ", " ++ toString interval
  | .callTick tickUs => "call tick ; " ++ toString tickUs
  | .callWire => "call wire"
  | .callReset => "call reset"
  | .callStop => "call stop"
  | .callSetUpdateInterval mref interval => "call set_update_interval ; " ++ toString mref ++ ", " ++ toString interval
  | .callGetUpdateInterval mref => "call get_update_interval ; " ++ toString mref
  | .callRequestIrq mref => "call request_irq ; " ++ toString mref
  | .callSetIrq line => "call set_irq " ++ hexText line.toNat
  | .callClearIrq line => "call clear_irq " ++ hexText line.toNat
  | .callInta => "call inta"
  | .callVgaUpdate => "call vga_update"
  | .callScreenSize => "call screen_size"

end Sys2Proof
end

