-- ==== Sys2Proof/Machine/State.lean ====
section
/-! DEFINITION. The machine's state as plain data (10_state.md R21-R48), its faults and refusals, and
the states after power-on and after reset (70_reset_and_hazards.md R447). -/

namespace Sys2Proof.Machine

/-- A model fault (60_exceptions.md R402): the state is faulted for good. -/
inductive Fault where
  /-- Acknowledge with no line pending, raised by INTA (44_pic.md R324). Safe: the source calls the
  returned address undefined, and the model stops. -/
  | ackNone
deriving DecidableEq, Repr

/-- A step that is not taken. -/
inductive Refusal where
  /-- The instruction has no meaning in this model; raised by `exec`. Safe. -/
  | notModelled (mnemonic : String)
  /-- The decoder refuses the word, raised by `step` (30_encoding.md R120: "no step; the model records
  the refusal and takes no further step"). Safe. -/
  | reserved (e : DecodeError)
  /-- No transaction is presented, raised by `step`: a step consumes one transaction (00_scope.md
  R11), so there is nothing to run. Safe. Log 1. -/
  | noTransaction
  /-- A transaction is presented after STOP, raised by `step` (70_reset_and_hazards.md R455: "no
  further transaction is accepted"). Safe. Log 13. -/
  | stopped
deriving DecidableEq, Repr

/-- The state of the block. -/
structure State where
  /-- `Modules`, in registry order (R21). -/
  modules : List Module
  /-- Port map, timers and clock (R22-R24). -/
  bus : Bus
  /-- Owners and raised lines (R25). -/
  pic : Pic
  /-- The video adapter (R27-R42). -/
  vga : Vga
  /-- `Log`, oldest first (R47). -/
  log : List LogEvent
  /-- `Out`, oldest first (R47). -/
  out : List OutEvent
  /-- `Faulted` with its reason (R48). -/
  faulted : Option Fault
  /-- The liveness flag a stop request clears (70_reset_and_hazards.md R455). -/
  live : Bool
  /-- A module has reported a mid-session error and STOP is due at the end of the loop iteration
  (60_exceptions.md R403). -/
  shutdown : Bool
  /-- The transactions presented and not yet taken, next first (R20). Log 1. -/
  input : List Transaction
  /-- The model's own: what the last transaction returned. Log 6. -/
  result : Result
  /-- The model's own: how many free values have been drawn. Log 8. -/
  draws : Nat
deriving DecidableEq, Repr

/-- The module list of the model's power-on state (R21: "built once by the orchestrator"); the order
keeps 70_reset_and_hazards.md R450's constraints. DESIGN CHOICE, log 3. -/
def registryAtPowerOn : List Module :=
  [.cpu, .memory, .motherboard, .pic, .rtc, .pit, .ata, .fdc, .keyboard, .mouse, .video, .screen].map
    fun k => Module.mk k [] false false

/-- The position of the module of type "video" in `registryAtPowerOn`. -/
def videoAtPowerOn : ModuleRef := 10

/-- The machine at power-on: the first column of R447's table (R441). -/
def State.powerOn : State where
  modules := registryAtPowerOn
  bus := { portMap := [], timers := [], clock := 0 }
  pic := { owner := Vector.replicate 16 none, raised := Vector.replicate 16 false }
  vga := vgaResetValue []
  log := []
  out := []
  faulted := none
  live := true
  shutdown := false
  input := []
  result := .unit
  draws := 0

/-- The machine right after the reset pass from power-on: R447's second column, with the VGA's ports
bound and its timer requested (R443). The calls and answers of the other modules in that pass are
draws; this state is that of a pass in which they make no call. DESIGN CHOICE, log 2. -/
def State.reset : State :=
  { State.powerOn with
    bus :=
      { portMap := vgaPorts.map fun p => (p.toNat, videoAtPowerOn)
        timers := [Timer.mk videoAtPowerOn Config.params.vgaUpdateIntervalUs true 0]
        clock := 0 } }

end Sys2Proof.Machine
end

