-- ==== Sys2Proof/Machine/Operands.lean ====
section
/-! DEFINITION. Every field of the VGA registers a rule reads (10_state.md R30, R33, R35), the window
(20_memory.md R82-R84) and the small byte functions (00_scope.md R10). -/

namespace Sys2Proof.Machine

/-! ### Byte functions (R10) -/

/-- `rotr8(v, n)`, n in 0..7. -/
def rotr8 (v : Byte) (n : BitVec 3) : Byte := v >>> n.toNat ||| v <<< (8 - n.toNat)

/-- `rep8(b)`: 0xFF if the bit is 1, else 0x00. -/
def rep8 (b : Bool) : Byte := if b then 0xFF else 0x00

/-! ### Sequencer fields (R30) -/

/-- Map Mask, bits 3:0: bit p enables plane p. -/
def Vga.mapMask (v : Vga) : BitVec 4 := v.seq[2].extractLsb' 0 4
/-- Character map B: bit 4 ++ bits 1:0 of Character Map Select. -/
def Vga.charMapB (v : Vga) : BitVec 3 := v.seq[3].extractLsb' 4 1 ++ v.seq[3].extractLsb' 0 2
/-- Character map A: bit 5 ++ bits 3:2 of Character Map Select; stored only. -/
def Vga.charMapA (v : Vga) : BitVec 3 := v.seq[3].extractLsb' 5 1 ++ v.seq[3].extractLsb' 2 2

/-! ### CRTC values (R33) -/

/-- StartAddr = Crtc[0x0C] ++ Crtc[0x0D]. -/
def Vga.startAddr (v : Vga) : BitVec 16 := v.crtc[0x0C] ++ v.crtc[0x0D]
/-- CursorAddr = Crtc[0x0E] ++ Crtc[0x0F]. -/
def Vga.cursorAddr (v : Vga) : BitVec 16 := v.crtc[0x0E] ++ v.crtc[0x0F]
/-- VDE = Crtc[0x12] with bit 8 from Crtc[0x07][1] and bit 9 from Crtc[0x07][6]. -/
def Vga.vde (v : Vga) : BitVec 10 :=
  v.crtc[0x07].extractLsb' 6 1 ++ v.crtc[0x07].extractLsb' 1 1 ++ v.crtc[0x12]
/-- MSL = Crtc[0x09][4:0]. -/
def Vga.msl (v : Vga) : BitVec 5 := v.crtc[0x09].extractLsb' 0 5
/-- The width factor W of LineOffset. -/
def Vga.lineFactor (v : Vga) : Nat :=
  if v.crtc[0x14].getLsbD 6 then 4 else if v.crtc[0x17].getLsbD 6 then 1 else 2
/-- LineOffset = Crtc[0x13] * 2 * W, bytes of CPU offset per scan line. -/
def Vga.lineOffset (v : Vga) : Nat := v.crtc[0x13].toNat * 2 * v.lineFactor

/-! ### Graphics Controller fields (R35) -/

/-- SR, Set/Reset value per plane. -/
def Vga.sr (v : Vga) : BitVec 4 := v.gc[0].extractLsb' 0 4
/-- ESR, Enable Set/Reset per plane. -/
def Vga.esr (v : Vga) : BitVec 4 := v.gc[1].extractLsb' 0 4
/-- CC, Colour Compare. -/
def Vga.cc (v : Vga) : BitVec 4 := v.gc[2].extractLsb' 0 4
/-- ROT, rotate count. -/
def Vga.rot (v : Vga) : BitVec 3 := v.gc[3].extractLsb' 0 3
/-- FN, data operation. -/
def Vga.fn (v : Vga) : BitVec 2 := v.gc[3].extractLsb' 3 2
/-- RMS, Read Map Select. -/
def Vga.rms (v : Vga) : BitVec 2 := v.gc[4].extractLsb' 0 2
/-- WM, write mode. -/
def Vga.wm (v : Vga) : BitVec 2 := v.gc[5].extractLsb' 0 2
/-- RM, read mode 1 when true. -/
def Vga.rm (v : Vga) : Bool := v.gc[5].getLsbD 3
/-- MMS, memory-map select (R44). -/
def Vga.mms (v : Vga) : BitVec 2 := v.gc[6].extractLsb' 2 2
/-- CDC, Colour Don't Care: bit p makes plane p take part. -/
def Vga.cdc (v : Vga) : BitVec 4 := v.gc[7].extractLsb' 0 4
/-- BM, Bit Mask. -/
def Vga.bm (v : Vga) : Byte := v.gc[8]

/-! ### The window (20_memory.md R82, R83) -/

/-- Base of the window an MMS value selects (R82). -/
def windowBase (mms : BitVec 2) : Nat :=
  match mms with
  | 0#2 => 0xA0000
  | 1#2 => 0xA0000
  | 2#2 => 0xB0000
  | 3#2 => 0xB8000

/-- Limit (inclusive) of the window an MMS value selects (R82). -/
def windowLimit (mms : BitVec 2) : Nat :=
  match mms with
  | 0#2 => 0xBFFFF
  | 1#2 => 0xAFFFF
  | 2#2 => 0xB7FFF
  | 3#2 => 0xBFFFF

/-- `Resolve(addr)` (R83): none is OUTSIDE, otherwise the 16-bit offset. -/
def Vga.resolve (v : Vga) (addr : PhysAddr) : Option (BitVec 16) :=
  if windowBase v.mms ≤ addr.toNat ∧ addr.toNat ≤ windowLimit v.mms then
    some (BitVec.ofNat 16 (addr.toNat - windowBase v.mms))
  else none

/-- The plane an offset selects under chain-four: `off[1:0]` (R84). -/
def chainPlane (off : BitVec 16) : Fin 4 := ⟨off.toNat % 4, Nat.mod_lt _ (by decide)⟩

/-- The byte index within every plane under chain-four: `off & 0xFFFC` (R84). -/
def chainIndex (off : BitVec 16) : BitVec 16 := off &&& 0xFFFC

/-! ### PIC line numbers (10_state.md R25) -/

/-- The line an ARG byte names: a number of [1,16], else none. -/
def lineOfNumber (n : Byte) : Option Line :=
  if h : 1 ≤ n.toNat ∧ n.toNat ≤ 16 then some ⟨n.toNat - 1, by omega⟩ else none

/-! ### Screen geometry (43_vga_display.md R291-R293) -/

/-- `ScreenSize()` (R291). -/
def Vga.screenSize (C : Params) (v : Vga) : Nat × Nat :=
  if C.sig320x240 v.crtc then (320, 240) else ((v.crtc[0x01].toNat + 1) * 8, v.vde.toNat + 1)

/-- `Cols` (R292). -/
def Vga.textCols (v : Vga) : Nat := v.crtc[0x01].toNat + 1

/-- `CharH` (R292). -/
def Vga.charHeight (v : Vga) : Nat := v.msl.toNat + 1

/-- `Rows` (R292). -/
def Vga.textRows (C : Params) (v : Vga) : Nat := (v.screenSize C).2 / v.charHeight

/-- `Cursor()` (R293): none is the sentinel, otherwise (column, row). -/
def Vga.cursor (v : Vga) : Option (Nat × Nat) :=
  if v.cursorAddr.toNat < v.startAddr.toNat then none
  else
    let pos := v.cursorAddr.toNat - v.startAddr.toNat
    some (pos % v.textCols, pos / v.textCols)

end Sys2Proof.Machine
end

