-- ==== Sys2Proof/Machine/Flags.lean ====
section
/-! DEFINITION. The block's derived flags (10_state.md R26, R33, R43-R45, 41_vga_ports.md R180). There
are no arithmetic condition codes (R45). The stored flags are fields of State. -/

namespace Sys2Proof.Machine

/-- Protect = Crtc[0x11][7] (R33). -/
def Vga.protect (v : Vga) : Bool := v.crtc[0x11].getLsbD 7

/-- DoubleScan = (Crtc[0x09] & 0x9F) != 0 (R33). -/
def Vga.doubleScan (v : Vga) : Bool := (v.crtc[0x09] &&& 0x9F) != 0

/-- GraphicsMode = Gc[0x06][0] (R43). -/
def Vga.graphicsMode (v : Vga) : Bool := v.gc[6].getLsbD 0

/-- Chain4 = Seq[0x04][3] (R44). -/
def Vga.chain4 (v : Vga) : Bool := v.seq[4].getLsbD 3

/-- `Answered(p)`, the mode-consistency gate (41_vga_ports.md R180). -/
def Vga.answered (v : Vga) (p : Port) : Bool :=
  if 0x3B0 ≤ p.toNat ∧ p.toNat ≤ 0x3BF then !v.misc.getLsbD 0
  else if 0x3D0 ≤ p.toNat ∧ p.toNat ≤ 0x3DF then v.misc.getLsbD 0
  else true

/-- The gate as R180 applies it: "evaluated only for the 22 ports the VGA binds", so it stops no other
port. -/
def Vga.gatePasses (v : Vga) (p : Port) : Bool := !vgaPorts.contains p || v.answered p

/-- `Dirty[c][r]` for a tile of the grid (R41). -/
def Vga.dirty (v : Vga) (t : Tile) : Bool := !v.clean.contains t

/-- IntrPending (R26): some owned line is raised. -/
def Pic.intrPending (p : Pic) : Bool :=
  (List.finRange 16).any fun n => p.raised.get n && (p.owner.get n).isSome

/-- Whether a module operand names a module of the given type (R21). -/
def State.isKind (s : State) (m : ModuleRef) (k : ModuleType) : Bool :=
  (s.modules[m]?.map Module.kind) == some k

/-- Whether a module operand names the VGA (R153: type "video"). -/
def State.isVideo (s : State) (m : ModuleRef) : Bool := s.isKind m .video

end Sys2Proof.Machine
end

