-- ==== Sys2Proof/Machine/Ops.lean ====
section
/-! DEFINITION. The named operations the meanings share: cells, state updates, draws, video memory,
port map and timers (40_bus.md), PIC lines (44_pic.md), other modules, port dispatch, and taking a
fault. Every operation takes the parameters `C` it reads. -/

namespace Sys2Proof.Machine

/-! ### Cells: a partial map from numbers, kept with its keys strictly rising -/

/-- What the map holds at `a`. -/
def cellLookup {α : Type} (a : Nat) : List (Nat × α) → Option α
  | [] => none
  | (k, x) :: rest => if k = a then some x else cellLookup a rest

/-- The map with `x` at `a`. -/
def cellInsert {α : Type} (a : Nat) (x : α) : List (Nat × α) → List (Nat × α)
  | [] => [(a, x)]
  | (k, y) :: rest =>
    if a < k then (a, x) :: (k, y) :: rest
    else if a = k then (a, x) :: rest
    else (k, y) :: cellInsert a x rest

/-- The canonical form: keys strictly rising and below `bound`. -/
def cellsWf {α : Type} (bound : Nat) (m : List (Nat × α)) : Bool :=
  decide ((m.map Prod.fst).Pairwise (· < ·)) && m.all fun x => decide (x.1 < bound)

/-- Memory's canonical form: addresses strictly rising, all of them among the 4 * 65,536 bytes the
spec gives (10_state.md R40). Log 9. -/
def Memory.wf (m : Memory) : Bool := cellsWf 262144 m

/-- The port map's canonical form: at most one module per 16-bit port number (10_state.md R22). -/
def portMapWf (m : List (Nat × ModuleRef)) : Bool := cellsWf 65536 m

/-! ### State updates -/

/-- Return `r` to the caller. -/
def State.answer (s : State) (r : Result) : State := { s with result := r }
/-- `Log(code, info)` (00_scope.md R10). -/
def State.record (s : State) (e : LogEvent) : State := { s with log := s.log ++ [e] }
/-- `Emit(event)` (00_scope.md R10). -/
def State.emit (s : State) (e : OutEvent) : State := { s with out := s.out ++ [e] }
/-- Count one draw (00_scope.md R8). -/
def State.countDraw (s : State) : State := { s with draws := s.draws + 1 }
/-- Replace the adapter. -/
def State.setVga (s : State) (v : Vga) : State := { s with vga := v }
/-- Replace the PIC. -/
def State.setPic (s : State) (p : Pic) : State := { s with pic := p }
/-- Replace the bus. -/
def State.setBus (s : State) (b : Bus) : State := { s with bus := b }
/-- Replace the module list. -/
def State.setModules (s : State) (ms : List Module) : State := { s with modules := ms }

/-- Draw a byte: any value, a proof must hold for each (00_scope.md R8). -/
def drawByte (C : Params) (s : State) : State × Byte := (s.countDraw, C.drawByte s.draws)

/-- Return the byte of a read to the caller. -/
def answerByte (r : State × Byte) : State := r.1.answer (.byte r.2)
/-- Return the bool of a call to the caller. -/
def answerBool (r : State × Bool) : State := r.1.answer (.bool r.2)
/-- Return the number of a call to the caller. -/
def answerNat (r : State × Nat) : State := r.1.answer (.nat r.2)
/-- Return the line of a call, or NONE, to the caller. -/
def answerLine (r : State × Option Line) : State := r.1.answer (.line r.2)

/-! ### Passes (70_reset_and_hazards.md R442, R443, R450) -/

/-- Run every step in order, each from the state the one before it left, and AND their answers: a step
runs whatever earlier ones answered. Log 18. -/
def andAll : List (State → State × Bool) → State → State × Bool
  | [], s => (s, true)
  | f :: fs, s => ((andAll fs (f s).1).1, (f s).2 && (andAll fs (f s).1).2)

/-! ### Taking a fault (00_scope.md R10, 10_state.md R48)

The block takes no exception into a CPU and returns from none (60_exceptions.md R400, R408, R409):
this is the one way a transaction ends other than by its rule. The state is faulted for good; `step`
answers the fault for every state that is. Log 11. -/

/-- `raise Fault(reason)`. -/
def raiseFault (f : Fault) (s : State) : State := { s with faulted := some f }

/-! ### Video memory (10_state.md R40) -/

/-- The key of byte `i` of plane `p`. -/
def planeKey (p : Fin 4) (i : BitVec 16) : Nat := p.val * 65536 + i.toNat

/-- `Plane[p][i]`: the byte last written there, else its power-on draw. -/
def planeRead (C : Params) (m : Memory) (p : Fin 4) (i : BitVec 16) : Byte :=
  (cellLookup (planeKey p i) m).getD (C.initVram (planeKey p i))

/-- `Plane[p][i] <- b`. -/
def planeWrite (m : Memory) (p : Fin 4) (i : BitVec 16) (b : Byte) : Memory :=
  cellInsert (planeKey p i) b m

/-! ### Tiles (10_state.md R41) -/

/-- Row-major order, the order updates visit tiles in (43_vga_display.md R298). -/
def tileBefore (a b : Tile) : Bool := a.row < b.row || (a.row == b.row && a.col < b.col)

/-- Add a tile to the clean tiles, kept in row-major order without repeats. -/
def tileInsert (t : Tile) : List Tile → List Tile
  | [] => [t]
  | u :: rest =>
    if tileBefore t u then t :: u :: rest
    else if t = u then u :: rest
    else u :: tileInsert t rest

/-- The canonical form of the clean tiles: row-major order, each in the grid. -/
def cleanWf (C : Params) (ts : List Tile) : Bool :=
  decide (ts.Pairwise fun a b => tileBefore a b = true) &&
    ts.all fun t => decide (t.col < C.gridCols) && decide (t.row < C.gridRows)

/-- `MarkAll()` (42_vga_memory_codec.md R271). -/
def markAll (v : Vga) : Vga := { v with clean := [] }

/-- `Dirty[c][r] <- false`. -/
def clearTile (t : Tile) (v : Vga) : Vga := { v with clean := tileInsert t v.clean }

/-! ### Registry (40_bus.md R161) -/

/-- `Get(t)`: the first module of the type, or none (NOT_FOUND). -/
def registryGet (ms : List Module) (k : ModuleType) : Option ModuleRef :=
  ms.findIdx? fun m => m.kind == k

/-- `add(module)`: appends, with no check for a second module of the type. -/
def registryAdd (ms : List Module) (m : Module) : List Module := ms ++ [m]

/-! ### Port map (40_bus.md R141-R146) -/

/-- The owner of a port. -/
def Bus.portOwner (b : Bus) (p : Port) : Option ModuleRef := cellLookup p.toNat b.portMap

/-- `Bind(p, m)` (R141): a bound port keeps its first binding. -/
def bindPort (p : Port) (m : ModuleRef) (s : State) : State × Bool :=
  match s.bus.portOwner p with
  | none => (s.setBus { s.bus with portMap := cellInsert p.toNat m s.bus.portMap }, true)
  | some o => if o = m then (s, true) else (s.record (.bindConflict p o m), false)

/-- `UnboundRead(p)` (R144): UNMAPPED_DEFAULT is 0xFF. -/
def unboundRead (p : Port) (s : State) : State × Byte := (s.record (.unboundPort p none), 0xFF)

/-- `UnboundWrite(p, v)` (R146). -/
def unboundWrite (p : Port) (data : Byte) (s : State) : State :=
  s.record (.unboundPort p (some data))

/-! ### Other modules (40_bus.md R143, R153, 60_exceptions.md R403) -/

/-- Module `m` reports a mid-session error: E_DEVICE is logged and STOP is due at the end of the loop
iteration (R403). Log 14. -/
def reportDeviceError (m : ModuleRef) (s : State) : State :=
  { s.record (.device m) with shutdown := true }

/-- A port handler of a module other than the VGA may report a mid-session error (R403): whether it does
is a draw, and it does so once at most (R405). DEDUCED, log 14: R403 names no module that may report, so
any may but those of type "video", the PIC and the motherboard included when a caller has bound a port to
them. -/
def deviceStep (C : Params) (m : ModuleRef) (s : State) : State :=
  if C.deviceError s.draws then reportDeviceError m s.countDraw else s.countDraw

/-- A port read answered by a module other than the VGA: "the module's own", a draw (R143). Log 15. -/
def foreignRead (C : Params) (m : ModuleRef) (s : State) : State × Byte :=
  (deviceStep C m (drawByte C s).1, (drawByte C s).2)

/-- A port write taken by a module other than the VGA (R145). Log 15. -/
def foreignWrite (C : Params) (m : ModuleRef) (s : State) : State := deviceStep C m s

/-! ### Port dispatch (40_bus.md R143, R145, 41_vga_ports.md R180, R181) -/

/-- `PortRead(p)`, with `h` the VGA's handler for a read of `p`. -/
def portRead (C : Params) (p : Port) (h : State → State × Byte) (s : State) : State × Byte :=
  match s.bus.portOwner p with
  | none => unboundRead p s
  | some m =>
    if s.isVideo m then
      if s.vga.gatePasses p then h s else (s.record (.modeMismatch p), 0xFF)
    else foreignRead C m s

/-- `PortWrite(p, v)`, with `h` the VGA's handler for that write of `p`. -/
def portWrite (C : Params) (p : Port) (data : Byte) (h : State → State) (s : State) : State :=
  match s.bus.portOwner p with
  | none => unboundWrite p data s
  | some m =>
    if s.isVideo m then
      if s.vga.gatePasses p then h s else s.record (.modeMismatch p)
    else foreignWrite C m s

/-! ### Timers (40_bus.md R147-R157) -/

/-- `Normalize(i)` for module `m` (R147). -/
def normalizeInterval (C : Params) (m : ModuleRef) (i : Int) : Nat :=
  if 0 < i then i.toNat else C.defaultIntervalUs m

/-- The position of `m`'s timer entry. -/
def timerIndex (ts : List Timer) (m : ModuleRef) : Option Nat := ts.findIdx? fun e => e.owner == m

/-- Replace the timer entry at position `k`. -/
def State.setTimer (s : State) (k : Nat) (e : Timer) : State :=
  s.setBus { s.bus with timers := s.bus.timers.set k e }

/-- `RequestTimer(m, i, a)` (R148). -/
def requestTimer (C : Params) (m : ModuleRef) (i : Int) (a : Bool) (s : State) : State :=
  match timerIndex s.bus.timers m with
  | some k => s.setTimer k (Timer.mk m (normalizeInterval C m i) a 0)
  | none =>
    s.setBus { s.bus with timers := s.bus.timers ++ [Timer.mk m (normalizeInterval C m i) a 0] }

/-- Update the timer entry of `m`, or log E_NO_TIMER when it has none (R149, R150). -/
def updateTimer (m : ModuleRef) (f : Timer → Timer) (s : State) : State :=
  match timerIndex s.bus.timers m with
  | some k => s.setBus { s.bus with timers := s.bus.timers.modify k f }
  | none => s.record (.noTimer m)

/-- `SetTimerActive(m, a)` (R149). -/
def setTimerActive (m : ModuleRef) (a : Bool) (s : State) : State :=
  updateTimer m (fun e => { e with active := a }) s

/-- `ResetTimer(m, i)` (R150). -/
def resetTimer (C : Params) (m : ModuleRef) (i : Int) (s : State) : State :=
  updateTimer m (fun e => { e with interval := normalizeInterval C m i, acc := 0 }) s

/-- The interval of `m`'s entry; the default and E_NO_TIMER when it has none (R157). -/
def getUpdateInterval (C : Params) (m : ModuleRef) (s : State) : State × Nat :=
  match s.bus.timers.find? (fun e => e.owner == m) with
  | some e => (s, e.interval)
  | none => (s.record (.noTimer m), C.defaultIntervalUs m)

/-! ### PIC lines (44_pic.md R321-R324) -/

/-- The line a module owns. -/
def Pic.ownedLine (p : Pic) (m : ModuleRef) : Option Line :=
  (List.finRange 16).find? fun n => p.owner.get n == some m

/-- The first free line of IRQ_POOL, in list order. -/
def Pic.freeLine (C : Params) (p : Pic) : Option Line :=
  C.irqPool.find? fun n => p.owner.get n == none

/-- The lowest raised line: lower number, higher priority (R324). -/
def Pic.lowestRaised (p : Pic) : Option Line := (List.finRange 16).find? fun n => p.raised.get n

/-- `Raised[n] <- b`. -/
def Pic.setRaised (p : Pic) (n : Line) (b : Bool) : Pic :=
  { p with raised := p.raised.set n b }

/-- `RequestIRQ(m)` (R321). -/
def requestIrq (C : Params) (m : ModuleRef) (s : State) : State × Option Line :=
  match s.pic.ownedLine m with
  | some n => (s, some n)
  | none =>
    match s.pic.freeLine C with
    | some n => (s.setPic { s.pic with owner := s.pic.owner.set n (some m) }, some n)
    | none => (s.record (.irqExhausted m), none)

/-- The owned line a number names: the guard of R322 and R323. -/
def Pic.ownedNumber (p : Pic) (number : Byte) : Option Line :=
  match lineOfNumber number with
  | some n => if (p.owner.get n).isSome then some n else none
  | none => none

/-- `SetIRQ(n)` and `ClearIRQ(n)` (R322, R323): set the raised flag of an owned line to `b`. -/
def changeIrq (b : Bool) (number : Byte) (s : State) : State :=
  match s.pic.ownedNumber number with
  | some n => s.setPic (s.pic.setRaised n b)
  | none => s.record (.irqInvalid number)

end Sys2Proof.Machine
end

