-- ==== Sys2Proof/Machine/Display.lean ====
section
/-! DEFINITION. The adapter's periodic update and the screen size (43_vga_display.md). -/

namespace Sys2Proof.Machine

/-- Whether a tile lies on a screen of the given size (R298). -/
def onScreen (C : Params) (size : Nat × Nat) (t : Tile) : Bool :=
  decide (t.col * C.xTileSize < size.1) && decide (t.row * C.yTileSize < size.2)

/-- The tiles of the grid in row-major order, r outer, c inner (R298). -/
def gridTiles (C : Params) : List Tile :=
  (List.range C.gridRows).flatMap fun r => (List.range C.gridCols).map fun c => Tile.mk c r

/-- Visit one tile of a graphics update (R298). -/
def redrawTile (C : Params) (size : Nat × Nat) (s : State) (t : Tile) : State :=
  if s.vga.dirty t && onScreen C size t then
    (s.emit (.tileRedraw t (C.render s.vga (.tile t)))).setVga (clearTile t s.vga)
  else s

/-- `GraphicsUpdate(w, h)` (R298). -/
def graphicsUpdate (C : Params) (size : Nat × Nat) (s : State) : State :=
  (gridTiles C).foldl (redrawTile C size) s

/-- `TextUpdate(w, h)` (R299). -/
def textUpdate (C : Params) (size : Nat × Nat) (s : State) : State :=
  let v := s.vga
  (s.emit (.textRedraw v.startAddr v.cursor v.textCols (v.textRows C) (C.render v .text))).setVga
    (((gridTiles C).filter (onScreen C size)).foldl (fun v t => clearTile t v) v)

/-- Announce a changed screen size before any pixel data (R296). -/
def announceSize (size : Nat × Nat) (s : State) : State :=
  if s.vga.lastSize = some size then s
  else
    (s.emit (.resize size.1 size.2)).setVga (markAll { s.vga with lastSize := some size })

/-- `Update()` (R296, R297). -/
def vgaUpdate (C : Params) (s : State) : State :=
  if !s.vga.graphicsMode && s.vga.msl == 0 then s
  else
    let size := s.vga.screenSize C
    let t := announceSize size s
    if t.vga.graphicsMode then graphicsUpdate C size t else textUpdate C size t

/-! ### Meanings -/

/-- VGA_UPDATE (R296). -/
def execCallVgaUpdate (s : State) : Host.Outcome State Fault Refusal :=
  .next ((vgaUpdate Config.params s).answer .unit)

/-- SCREEN_SIZE (R291). -/
def execCallScreenSize (s : State) : Host.Outcome State Fault Refusal :=
  .next (s.answer
    (.size (s.vga.screenSize Config.params).1 (s.vga.screenSize Config.params).2))

end Sys2Proof.Machine
end

