-- ==== Sys2Proof/Machine/Lifecycle.lean ====
section
/-! DEFINITION. Reset and stop (70_reset_and_hazards.md). -/

namespace Sys2Proof.Machine

/-- `stop()` (R455): the run ends after the current transaction; the state is kept. Log 13. -/
def stopOp (s : State) : State := { s with live := false }

/-- Bind a list of ports in order, and whether every bind returned true (R443). -/
def bindPorts (m : ModuleRef) (ps : List Port) : State → State × Bool :=
  andAll (ps.map fun p => bindPort p m)

/-- `ResetModule(video)` (R443): the registers, the ports in ascending order, the timer. -/
def resetVideo (C : Params) (m : ModuleRef) (s : State) : State × Bool :=
  let r := bindPorts m vgaPorts (s.setVga (vgaResetValue s.vga.planes))
  (requestTimer C m (C.vgaUpdateIntervalUs : Nat) true r.1, r.2)

/-- `ResetModule(pic)` (R444): every line lowered, owners kept. -/
def resetPic (s : State) : State × Bool :=
  (s.setPic { s.pic with raised := Vector.replicate 16 false }, true)

/-- `ResetModule(motherboard)` (R445): nothing further. -/
def resetMotherboard (s : State) : State × Bool := (s, true)

/-- One call of another module's reset (R442), and false exactly when it is a bind that conflicts
(90_conflicts.md C8). -/
def applyResetCall (C : Params) (c : ResetCall) (s : State) : State × Bool :=
  match c with
  | .bind p m => bindPort p m s
  | .requestTimer m i a => (requestTimer C m i a s, true)
  | .requestIrq m => ((requestIrq C m s).1, true)

/-- Another module's reset (R442): any BIND, REQUEST_TIMER and REQUEST_IRQ calls and a bool, all of them
draws; a bind conflict "makes BIND, and so RESET, return false" (90_conflicts.md C8). -/
def resetForeign (C : Params) (s : State) : State × Bool :=
  let r := andAll ((C.resetCalls s.draws).map (applyResetCall C)) s.countDraw
  (r.1, C.resetOk s.draws && r.2)

/-- `ResetModule(m)`, by the module's type (R442). -/
def resetModule (C : Params) (k : ModuleType) (m : ModuleRef) (s : State) : State × Bool :=
  match k with
  | .video => resetVideo C m s
  | .pic => resetPic s
  | .motherboard => resetMotherboard s
  | _ => resetForeign C s

/-- The pass over the modules in registry order, from position `m` (R442); every module is reset, and
the answers are ANDed. Log 18. Each call of a reset logs by its own rule, so that one RESET can log
several codes: log 29. -/
def resetModules (C : Params) (xs : List Module) (m : ModuleRef) : State → State × Bool :=
  andAll ((xs.zipIdx m).map fun x => resetModule C x.1.kind x.2)

/-- `Reset()` (R442): every binding torn down, then every module reset. -/
def resetOp (C : Params) (s : State) : State × Bool :=
  resetModules C s.modules 0 (s.setBus { s.bus with portMap := [] })

/-! ### Meanings -/

/-- RESET (R442). -/
def execCallReset (s : State) : Host.Outcome State Fault Refusal :=
  .next (answerBool (resetOp Config.params s))

/-- STOP (R455). -/
def execCallStop (s : State) : Host.Outcome State Fault Refusal :=
  .next ((stopOp s).answer .unit)

end Sys2Proof.Machine
end

