-- ==== Sys2Proof/Machine/BusCalls.lean ====
section
/-! DEFINITION. The bus router's and timer scheduler's calls (40_bus.md): BIND, the timer calls, TICK and
WIRE. -/

namespace Sys2Proof.Machine

/-! ### Running a module's update (R153) -/

/-- One thing that the `update()` of module `m` does (R153, 60_exceptions.md R403). Each call logs what
its own rule logs, so that one TICK can log several codes: log 29. -/
def applyUpdateCall (C : Params) (m : ModuleRef) (s : State) (c : UpdateCall) : State :=
  match c with
  | .setIrq n => changeIrq true n s
  | .clearIrq n => changeIrq false n s
  | .requestIrq k => (requestIrq C k s).1
  | .setTimerActive k a => setTimerActive k a s
  | .resetTimer k i => resetTimer C k i s
  | .requestTimer k i a => requestTimer C k i a s
  | .reportError => reportDeviceError m s

/-- The `update()` of a module other than the VGA: any finite sequence of those calls, a draw (R153).
DESIGN CHOICE, log 17: R403 does not say where in an update a device error falls, or how many there are;
reports stand among the drawn calls, any number of them at any place, so every order and count is
allowed. -/
def foreignUpdate (C : Params) (m : ModuleRef) (s : State) : State :=
  (C.updateCalls s.draws).foldl (applyUpdateCall C m) s.countDraw

/-- `RunUpdate(m)` (R153). -/
def runUpdate (C : Params) (m : ModuleRef) (s : State) : State :=
  if s.isVideo m then vgaUpdate C s else foreignUpdate C m s

/-! ### TICK (R152, R154) -/

/-- Visit the timer entry at position `k`: its current value, after earlier updates (R152). -/
def tickEntry (C : Params) (d : Nat) (s : State) (k : Nat) : State :=
  match s.bus.timers[k]? with
  | none => s
  | some e =>
    if e.active then
      if e.interval ≤ e.acc + d then
        runUpdate C e.owner
          ((s.setTimer k { e with acc := e.acc + d - e.interval }).emit (.update e.owner))
      else s.setTimer k { e with acc := e.acc + d }
    else s

/-- The end of a loop iteration: a reported device error is turned into a STOP (60_exceptions.md
R403). Log 14. -/
def endIteration (s : State) : State := if s.shutdown then stopOp s else s

/-- `Tick(d)` (R152): the clock, then every entry present when the tick starts, in registration order.
Log 19. Each update it runs logs by its own rules: 60_exceptions.md R405's "at most one code" is read of
each call, not of the TICK. Log 29. -/
def tick (C : Params) (d : Nat) (s : State) : State :=
  let t := s.setBus { s.bus with clock := s.bus.clock + d }
  endIteration ((List.range t.bus.timers.length).foldl (tickEntry C d) t)

/-! ### WIRE (R160) -/

/-- The required types of a module that no module of the registry has. -/
def missingTypes (ms : List Module) (m : Module) : List ModuleType :=
  m.required.filter fun k => (registryGet ms k).isNone

/-- `m.connected` after the pass: every required type is found. -/
def wireModule (ms : List Module) (m : Module) : Module :=
  { m with connected := (missingTypes ms m).isEmpty }

/-- The wiring errors of the pass, in registry order, from position `k`. -/
def wiringErrors (ms : List Module) : List Module → ModuleRef → List LogEvent
  | [], _ => []
  | m :: rest, k =>
    if (missingTypes ms m).isEmpty then wiringErrors ms rest (k + 1)
    else .wiring k (missingTypes ms m) :: wiringErrors ms rest (k + 1)

/-- `Wire()` (R160). -/
def wireOp (s : State) : State :=
  let t := s.setModules (s.modules.map (wireModule s.modules))
  { t with log := t.log ++ wiringErrors s.modules s.modules 0 }

/-! ### Meanings -/

/-- BIND (R141). -/
def execCallBind (port : Port) (mref : ModuleRef) (s : State) : Host.Outcome State Fault Refusal :=
  .next (answerBool (bindPort port mref s))

/-- REQUEST_TIMER (R148). -/
def execCallRequestTimer (mref : ModuleRef) (interval : Int) (active : Bool) (s : State) :
    Host.Outcome State Fault Refusal :=
  .next ((requestTimer Config.params mref interval active s).answer .unit)

/-- SET_TIMER_ACTIVE (R149). -/
def execCallSetTimerActive (mref : ModuleRef) (active : Bool) (s : State) :
    Host.Outcome State Fault Refusal :=
  .next ((setTimerActive mref active s).answer .unit)

/-- RESET_TIMER (R150). -/
def execCallResetTimer (mref : ModuleRef) (interval : Int) (s : State) :
    Host.Outcome State Fault Refusal :=
  .next ((resetTimer Config.params mref interval s).answer .unit)

/-- TICK (R152). -/
def execCallTick (tickUs : Nat) (s : State) : Host.Outcome State Fault Refusal :=
  .next ((tick Config.params tickUs s).answer .unit)

/-- WIRE (R160). -/
def execCallWire (s : State) : Host.Outcome State Fault Refusal :=
  .next ((wireOp s).answer .unit)

/-- SET_UPDATE_INTERVAL (R156): the bus timer is re-armed at once, in the same transaction. Log 28. -/
def execCallSetUpdateInterval (mref : ModuleRef) (interval : Int) (s : State) :
    Host.Outcome State Fault Refusal :=
  .next ((resetTimer Config.params mref interval s).answer .unit)

/-- GET_UPDATE_INTERVAL (R157). -/
def execCallGetUpdateInterval (mref : ModuleRef) (s : State) : Host.Outcome State Fault Refusal :=
  .next (answerNat (getUpdateInterval Config.params mref s))

end Sys2Proof.Machine
end

