-- ==== Sys2Proof/Machine/Codec.lean ====
section
/-! DEFINITION. The planar-memory codec, dirty marking and font notification (42_vga_memory_codec.md),
and the meanings of the two window transactions. -/

namespace Sys2Proof.Machine

/-! ### Reads (R251-R254) -/

/-- All four latches loaded from one index (R252). -/
def loadLatches (C : Params) (i : BitVec 16) (v : Vga) : Vga :=
  { v with latch := Vector.ofFn fun q : Fin 4 => planeRead C v.planes q i }

/-- `ReadMode0()` (R253). -/
def readMode0 (v : Vga) : Byte := v.latch[v.rms.toNat]'(v.rms.isLt)

/-- One plane's term of the colour compare (R254). -/
def compareTerm (v : Vga) (q : Fin 4) : Byte :=
  (v.latch.get q ^^^ rep8 (v.cc.getLsbD q)) &&& rep8 (v.cdc.getLsbD q)

/-- `ReadMode1()` (R254). -/
def readMode1 (v : Vga) : Byte :=
  ~~~(compareTerm v 0 ||| compareTerm v 1 ||| compareTerm v 2 ||| compareTerm v 3)

/-- `MemRead` inside the window (R252): the adapter with its latches loaded, and the byte returned. -/
def readInside (C : Params) (off : BitVec 16) (v : Vga) : Vga × Byte :=
  if v.chain4 then
    let w := loadLatches C (chainIndex off) v
    (w, w.latch.get (chainPlane off))
  else
    let w := loadLatches C off v
    (w, if w.rm then readMode1 w else readMode0 w)

/-- `MemRead(addr, 1)` (R250-R252). -/
def memRead (C : Params) (addr : PhysAddr) (s : State) : State × Byte :=
  match s.vga.resolve addr with
  | none => (s, 0xFF)
  | some off => (s.setVga (readInside C off s.vga).1, (readInside C off s.vga).2)

/-! ### Write modes (R260, R266-R269) -/

/-- `ALU(fn, d, l)` (R260). -/
def alu (fn : BitVec 2) (d l : Byte) : Byte :=
  match fn with
  | 0#2 => d
  | 1#2 => d &&& l
  | 2#2 => d ||| l
  | 3#2 => d ^^^ l

/-- `Merge(x, l, m)` (R260). -/
def merge (x l m : Byte) : Byte := (x &&& m) ||| (l &&& ~~~m)

/-- `new[q]` under the current write mode (R266-R269). -/
def writeMode (v : Vga) (data : Byte) (q : Fin 4) : Byte :=
  let l := v.latch.get q
  match v.wm with
  | 0#2 =>
    let d := if v.esr.getLsbD q then rep8 (v.sr.getLsbD q) else rotr8 data v.rot
    merge (alu v.fn d l) l v.bm
  | 1#2 => l
  | 2#2 => merge (alu v.fn (rep8 (data.getLsbD q)) l) l v.bm
  | 3#2 => merge (alu v.fn (rep8 (v.sr.getLsbD q)) l) l (rotr8 data v.rot &&& v.bm)

/-! ### Stores (R262, R263) -/

/-- Whether the map mask enables plane `q` (R262). -/
def Vga.planeEnabled (v : Vga) (q : Fin 4) : Bool := v.mapMask.getLsbD q

/-- The bytes a window write at an inside offset stores, as (plane, index, byte) in plane order: R262
with chain-four off, R263 with chain-four on. `Stored` is that the list is not empty. -/
def storesOf (C : Params) (v : Vga) (off : BitVec 16) (data : Byte) :
    List (Fin 4 × BitVec 16 × Byte) :=
  if v.chain4 then
    match C.chain4Write with
    | .raw => [(chainPlane off, chainIndex off, data)]
    | .pipeline =>
      if v.planeEnabled (chainPlane off) then
        [(chainPlane off, chainIndex off, writeMode v data (chainPlane off))]
      else []
  else
    ((List.finRange 4).filter v.planeEnabled).map fun q => (q, off, writeMode v data q)

/-- Carry out stores, in order. -/
def storeAll (ws : List (Fin 4 × BitVec 16 × Byte)) (m : Memory) : Memory :=
  ws.foldl (fun m w => planeWrite m w.1 w.2.1 w.2.2) m

/-! ### Dirty marking (R270, R271) -/

/-- The tile columns and rows (first, last) that the pixels of the byte at `off` fall in (R270), for a
line offset that is not 0. -/
def tileSpan (C : Params) (v : Vga) (off : BitVec 16) : (Nat × Nat) × (Nat × Nat) :=
  let rel := (off - v.startAddr).toNat
  let row := rel / v.lineOffset
  let colb := rel % v.lineOffset
  let ppb := if v.chain4 then 2 else 8
  let x0 := colb * ppb
  let x1 := x0 + ppb - 1
  let y0 := if v.doubleScan then row * 2 else row
  let y1 := if v.doubleScan then y0 + 1 else y0
  ((x0 / C.xTileSize, x1 / C.xTileSize), (y0 / C.yTileSize, y1 / C.yTileSize))

/-- Whether a tile of the grid lies in a span. -/
def inSpan (C : Params) (span : (Nat × Nat) × (Nat × Nat)) (t : Tile) : Bool :=
  decide (span.1.1 ≤ t.col) && decide (t.col ≤ span.1.2) && decide (span.2.1 ≤ t.row) &&
    decide (t.row ≤ span.2.2) && decide (t.col < C.gridCols) && decide (t.row < C.gridRows)

/-- `MarkTiles(off)` (R270, R271). -/
def markTiles (C : Params) (off : BitVec 16) (v : Vga) : Vga :=
  if !v.graphicsMode then markAll v
  else if v.lineOffset = 0 then markAll v
  else { v with clean := v.clean.filter fun t => !inSpan C (tileSpan C v off) t }

/-! ### Font notification (R274) -/

/-- The offset of a character map in plane 2 (R274). -/
def fontBase (mapB : BitVec 3) : Nat :=
  match mapB with
  | 0#3 => 0x0000
  | 1#3 => 0x4000
  | 2#3 => 0x8000
  | 3#3 => 0xC000
  | 4#3 => 0x2000
  | 5#3 => 0x6000
  | 6#3 => 0xA000
  | 7#3 => 0xE000

/-- The plane index a store at `off` reaches: the `k` of R274. -/
def storeIndex (v : Vga) (off : BitVec 16) : BitVec 16 := if v.chain4 then chainIndex off else off

/-- Whether an index lies in the active character map's 8 KiB (R274). -/
def inFontWindow (v : Vga) (k : BitVec 16) : Bool :=
  decide (fontBase v.charMapB ≤ k.toNat) && decide (k.toNat < fontBase v.charMapB + 0x2000)

/-- `FontCheck(off)` (R274). -/
def fontCheck (C : Params) (off : BitVec 16) (s : State) : State :=
  if inFontWindow s.vga (storeIndex s.vga off) then
    s.emit (.fontWrite ((storeIndex s.vga off).toNat - fontBase s.vga.charMapB)
      (planeRead C s.vga.planes 2 (storeIndex s.vga off)))
  else s

/-! ### Writes (R261, R264) -/

/-- `MemWrite` inside the window (R264). -/
def writeInside (C : Params) (off : BitVec 16) (data : Byte) (s : State) : State :=
  match storesOf C s.vga off data with
  | [] => s
  | w :: ws =>
    fontCheck C off
      (s.setVga (markTiles C off { s.vga with planes := storeAll (w :: ws) s.vga.planes }))

/-- `MemWrite(addr, 1, v)` (R250, R261, R264). -/
def memWrite (C : Params) (addr : PhysAddr) (data : Byte) (s : State) : State :=
  match s.vga.resolve addr with
  | none => s
  | some off => writeInside C off data s

/-! ### Meanings -/

/-- `mrd ADDR` (R251, R252). -/
def execMrd (addr : PhysAddr) (s : State) : Host.Outcome State Fault Refusal :=
  .next (answerByte (memRead Config.params addr s))

/-- `mwr ADDR, DATA` (R261, R264). -/
def execMwr (addr : PhysAddr) (data : Byte) (s : State) : Host.Outcome State Fault Refusal :=
  .next ((memWrite Config.params addr data s).answer .unit)

end Sys2Proof.Machine
end

