-- ==== Sys2Proof/Machine/Interrupts.lean ====
section
/-! DEFINITION. The interrupt controller's request/acknowledge protocol (44_pic.md). -/

namespace Sys2Proof.Machine

/-- What acknowledge does to the line it serves: an EDGE line is cleared, a LEVEL line stays raised
(R324). -/
def clearIfEdge (C : Params) (n : Line) (s : State) : State :=
  match C.trigger n with
  | .edge => s.setPic (s.pic.setRaised n false)
  | .level => s

/-- `Inta()` (R324): raise ACK_NONE when no owned line is raised; otherwise answer the service
address of the lowest raised line and clear it if it is an EDGE line. -/
def acknowledge (C : Params) (s : State) : State :=
  if s.pic.intrPending then
    match s.pic.lowestRaised with
    | some n => (clearIfEdge C n s).answer (.byte (C.vector n))
    | none => (raiseFault .ackNone s).answer .unit
  else (raiseFault .ackNone s).answer .unit

/-- REQUEST_IRQ (R321). -/
def execCallRequestIrq (mref : ModuleRef) (s : State) : Host.Outcome State Fault Refusal :=
  .next (answerLine (requestIrq Config.params mref s))

/-- SET_IRQ (R322). -/
def execCallSetIrq (line : Byte) (s : State) : Host.Outcome State Fault Refusal :=
  .next ((changeIrq true line s).answer .unit)

/-- CLEAR_IRQ (R323). -/
def execCallClearIrq (line : Byte) (s : State) : Host.Outcome State Fault Refusal :=
  .next ((changeIrq false line s).answer .unit)

/-- INTA (R324). -/
def execCallInta (s : State) : Host.Outcome State Fault Refusal :=
  .next (acknowledge Config.params s)

end Sys2Proof.Machine
end

