-- ==== Sys2Proof/Machine/VgaPorts.lean ====
section
/-! DEFINITION. The VGA's port handlers (41_vga_ports.md) and the meanings of the port transactions. A
handler runs only when the bus has dispatched the port to the VGA and the mode-consistency gate has
answered (R180); both are in `portRead` and `portWrite`. -/

namespace Sys2Proof.Machine

/-! ### CRTC (R182, R183, R186, R187) -/

/-- CRTC index read (R183). -/
def crtcIndexRead (s : State) : State × Byte := (s, s.vga.crtcIndex)

/-- CRTC index write (R182). -/
def crtcIndexWrite (data : Byte) (s : State) : State := s.setVga { s.vga with crtcIndex := data }

/-- CRTC data read (R187). -/
def crtcDataRead (C : Params) (s : State) : State × Byte :=
  if h : s.vga.crtcIndex.toNat < 25 then (s, s.vga.crtc[s.vga.crtcIndex.toNat])
  else drawByte C (s.record (.badIndex .crtc s.vga.crtcIndex))

/-- The CRTC register file after a data write of `data` at an index inside the bank, under the write
protection of R186: while Protect is set a write to 0x00-0x07 is lost, but for bit 4 of 0x07. -/
def crtcStore (v : Vga) (i : Fin 25) (data : Byte) : Vector Byte 25 :=
  if v.protect && decide (i.val ≤ 0x07) then
    if i.val = 0x07 then v.crtc.set 0x07 ((v.crtc[0x07] &&& 0xEF) ||| (data &&& 0x10)) else v.crtc
  else v.crtc.set i data

/-- CRTC data write (R186). -/
def crtcDataWrite (data : Byte) (s : State) : State :=
  if h : s.vga.crtcIndex.toNat < 25 then
    let t := s.setVga { s.vga with crtc := crtcStore s.vga ⟨s.vga.crtcIndex.toNat, h⟩ data }
    if s.vga.protect && decide (s.vga.crtcIndex.toNat ≤ 0x07) then
      t.record (.protectedIndex s.vga.crtcIndex)
    else t
  else s.record (.badIndex .crtc s.vga.crtcIndex)

/-! ### Status and feature control (R184, R185, R220) -/

/-- Input Status 1 read (R184): the flip-flop goes to ADDRESS; bit 0 (display disabled) and bit 3
(vertical retrace) are draws, the other bits 0. -/
def inputStatus1Read (C : Params) (s : State) : State × Byte :=
  let r := drawByte C (s.setVga { s.vga with acFlip := .address })
  (r.1, r.2 &&& 0x09)

/-- Feature Control write (R185). -/
def featureCtlWrite (data : Byte) (s : State) : State := s.setVga { s.vga with featureCtl := data }

/-- Feature Control read (R220). -/
def featureCtlRead (s : State) : State × Byte := (s, s.vga.featureCtl)

/-! ### Attribute Controller (R190-R193) -/

/-- Attribute address/data write (R190): the flip-flop toggles on every write. -/
def acWrite (data : Byte) (s : State) : State :=
  match s.vga.acFlip with
  | .address =>
    s.setVga { s.vga with
      acIndex := data.extractLsb' 0 5, acPas := data.extractLsb' 5 1, acFlip := .data }
  | .data =>
    if h : s.vga.acIndex.toNat < 21 then
      s.setVga { s.vga with ac := s.vga.ac.set s.vga.acIndex.toNat data, acFlip := .address }
    else
      (s.setVga { s.vga with acFlip := .address }).record
        (.badIndex .attrCtl (s.vga.acIndex.setWidth 8))

/-- Attribute address read (R191). -/
def acAddressRead (s : State) : State × Byte := (s, 0#2 ++ s.vga.acPas ++ s.vga.acIndex)

/-- Attribute data read (R192). -/
def acDataRead (C : Params) (s : State) : State × Byte :=
  if h : s.vga.acIndex.toNat < 21 then (s, s.vga.ac[s.vga.acIndex.toNat])
  else drawByte C (s.record (.badIndex .attrCtl (s.vga.acIndex.setWidth 8)))

/-! ### Misc Output, Input Status 0, Subsystem Enable (R196-R199, R222) -/

/-- Misc Output write (R196). -/
def miscWrite (data : Byte) (s : State) : State := s.setVga { s.vga with misc := data }

/-- Misc Output read (R222). -/
def miscRead (s : State) : State × Byte := (s, s.vga.misc)

/-- Input Status 0 read (R197): a draw. -/
def inputStatus0Read (C : Params) (s : State) : State × Byte := drawByte C s

/-- Video Subsystem Enable write (R198). -/
def subsysEnableWrite (data : Byte) (s : State) : State :=
  s.setVga { s.vga with subsysEnable := data }

/-- Video Subsystem Enable read (R199). -/
def subsysEnableRead (s : State) : State × Byte := (s, s.vga.subsysEnable)

/-! ### Sequencer (R202-R205) -/

/-- Sequencer index write (R202). -/
def seqIndexWrite (data : Byte) (s : State) : State := s.setVga { s.vga with seqIndex := data }

/-- Sequencer index read (R203). -/
def seqIndexRead (s : State) : State × Byte := (s, s.vga.seqIndex)

/-- Sequencer data write (R204). -/
def seqDataWrite (data : Byte) (s : State) : State :=
  if h : s.vga.seqIndex.toNat < 5 then
    s.setVga { s.vga with seq := s.vga.seq.set s.vga.seqIndex.toNat data }
  else s.record (.badIndex .sequencer s.vga.seqIndex)

/-- Sequencer data read (R205). -/
def seqDataRead (C : Params) (s : State) : State × Byte :=
  if h : s.vga.seqIndex.toNat < 5 then (s, s.vga.seq[s.vga.seqIndex.toNat])
  else drawByte C (s.record (.badIndex .sequencer s.vga.seqIndex))

/-! ### DAC (R210-R217) -/

/-- Pel mask write (R210). -/
def pelMaskWrite (data : Byte) (s : State) : State := s.setVga { s.vga with pelMask := data }

/-- Pel mask read (R211). -/
def pelMaskRead (s : State) : State × Byte := (s, s.vga.pelMask)

/-- DAC read-address write (R212). -/
def dacReadAddrWrite (data : Byte) (s : State) : State :=
  s.setVga { s.vga with dacRAddr := data, dacRPhase := 0, dacState := .read }

/-- DAC state read (R213). -/
def dacStateRead (s : State) : State × Byte :=
  (s, match s.vga.dacState with
      | .read => 0x03
      | .write => 0x00)

/-- DAC write-address write (R214). -/
def dacWriteAddrWrite (data : Byte) (s : State) : State :=
  s.setVga { s.vga with dacWAddr := data, dacWPhase := 0, dacState := .write }

/-- DAC write-address read (R215). -/
def dacWriteAddrRead (s : State) : State × Byte := (s, s.vga.dacWAddr)

/-- `Palette[a][c]` (10_state.md R38). -/
def paletteRead (v : Vga) (a : Byte) (c : Fin 3) : Byte := (v.palette[a.toNat]'a.isLt).get c

/-- `Palette[a][c] <- b` (10_state.md R38). -/
def paletteWrite (v : Vga) (a : Byte) (c : Fin 3) (b : Byte) : Vga :=
  { v with palette := v.palette.set a.toNat ((v.palette[a.toNat]'a.isLt).set c b) a.isLt }

/-- The address after one component: the next one (modulo 256) after a full triple (10_state.md R39). -/
def dacNextAddr (a : Byte) (c : Fin 3) : Byte := if c = 2 then a + 1 else a

/-- The phase after one component: 0, 1, 2, 0 (10_state.md R39). -/
def dacNextPhase (c : Fin 3) : Fin 3 := if c = 2 then 0 else c + 1

/-- DAC data write (R216). -/
def dacDataWrite (data : Byte) (s : State) : State :=
  s.setVga { paletteWrite s.vga s.vga.dacWAddr s.vga.dacWPhase data with
    dacWAddr := dacNextAddr s.vga.dacWAddr s.vga.dacWPhase
    dacWPhase := dacNextPhase s.vga.dacWPhase }

/-- DAC data read (R217). -/
def dacDataRead (C : Params) (s : State) : State × Byte :=
  (s.setVga { s.vga with
      dacRAddr := dacNextAddr s.vga.dacRAddr s.vga.dacRPhase
      dacRPhase := dacNextPhase s.vga.dacRPhase },
    C.dacReadXform (paletteRead s.vga s.vga.dacRAddr s.vga.dacRPhase))

/-! ### Read-only and unused ports (R193, R221, R223-R225) -/

/-- A write to a read-only port (R193, R221, R223). Log 24. -/
def readOnlyWrite (p : Port) (data : Byte) (s : State) : State := s.record (.roPort p data)

/-- A read of a port with no register (R224). -/
def noRegisterRead (p : Port) (s : State) : State × Byte := (s.record (.noRegister p), 0xFF)

/-- A write to a port with no register (R225). -/
def noRegisterWrite (p : Port) (s : State) : State := s.record (.noRegister p)

/-! ### Graphics Controller (R228-R231) -/

/-- GC index write (R228). -/
def gcIndexWrite (data : Byte) (s : State) : State := s.setVga { s.vga with gcIndex := data }

/-- GC index read (R229). -/
def gcIndexRead (s : State) : State × Byte := (s, s.vga.gcIndex)

/-- GC data write (R230). -/
def gcDataWrite (data : Byte) (s : State) : State :=
  if h : s.vga.gcIndex.toNat < 9 then
    s.setVga { s.vga with gc := s.vga.gc.set s.vga.gcIndex.toNat data }
  else s.record (.badIndex .graphics s.vga.gcIndex)

/-- GC data read (R231). -/
def gcDataRead (C : Params) (s : State) : State × Byte :=
  if h : s.vga.gcIndex.toNat < 9 then (s, s.vga.gc[s.vga.gcIndex.toNat])
  else drawByte C (s.record (.badIndex .graphics s.vga.gcIndex))

/-! ### The VGA's handlers by port (40_bus.md R143, R145) -/

/-- `ReadHandler(video, p)`. A port outside the 22 that some caller has bound to the VGA has no rule:
its read is a draw. Log 16. -/
def vgaReadHandler (C : Params) (p : Port) : State → State × Byte :=
  match p with
  | 0x3B4#16 => crtcIndexRead
  | 0x3B5#16 => crtcDataRead C
  | 0x3BA#16 => inputStatus1Read C
  | 0x3C0#16 => acAddressRead
  | 0x3C1#16 => acDataRead C
  | 0x3C2#16 => inputStatus0Read C
  | 0x3C3#16 => subsysEnableRead
  | 0x3C4#16 => seqIndexRead
  | 0x3C5#16 => seqDataRead C
  | 0x3C6#16 => pelMaskRead
  | 0x3C7#16 => dacStateRead
  | 0x3C8#16 => dacWriteAddrRead
  | 0x3C9#16 => dacDataRead C
  | 0x3CA#16 => featureCtlRead
  | 0x3CB#16 => noRegisterRead 0x3CB
  | 0x3CC#16 => miscRead
  | 0x3CD#16 => noRegisterRead 0x3CD
  | 0x3CE#16 => gcIndexRead
  | 0x3CF#16 => gcDataRead C
  | 0x3D4#16 => crtcIndexRead
  | 0x3D5#16 => crtcDataRead C
  | 0x3DA#16 => inputStatus1Read C
  | _ => drawByte C

/-- `WriteHandler(video, p, v)`. A port outside the 22 that some caller has bound to the VGA has no rule:
its write changes nothing. Log 16. -/
def vgaWriteHandler (p : Port) (data : Byte) : State → State :=
  match p with
  | 0x3B4#16 => crtcIndexWrite data
  | 0x3B5#16 => crtcDataWrite data
  | 0x3BA#16 => featureCtlWrite data
  | 0x3C0#16 => acWrite data
  | 0x3C1#16 => readOnlyWrite 0x3C1 data
  | 0x3C2#16 => miscWrite data
  | 0x3C3#16 => subsysEnableWrite data
  | 0x3C4#16 => seqIndexWrite data
  | 0x3C5#16 => seqDataWrite data
  | 0x3C6#16 => pelMaskWrite data
  | 0x3C7#16 => dacReadAddrWrite data
  | 0x3C8#16 => dacWriteAddrWrite data
  | 0x3C9#16 => dacDataWrite data
  | 0x3CA#16 => readOnlyWrite 0x3CA data
  | 0x3CB#16 => noRegisterWrite 0x3CB
  | 0x3CC#16 => readOnlyWrite 0x3CC data
  | 0x3CD#16 => noRegisterWrite 0x3CD
  | 0x3CE#16 => gcIndexWrite data
  | 0x3CF#16 => gcDataWrite data
  | 0x3D4#16 => crtcIndexWrite data
  | 0x3D5#16 => crtcDataWrite data
  | 0x3DA#16 => featureCtlWrite data
  | _ => id

/-! ### Meanings: the generic rows (40_bus.md R143-R146) -/

/-- `in PORT` (40_bus.md R143). -/
def execInPort (port : Port) (s : State) : Host.Outcome State Fault Refusal :=
  .next (answerByte (portRead Config.params port (vgaReadHandler Config.params port) s))

/-- `out PORT, DATA` (40_bus.md R145). -/
def execOutPort (port : Port) (data : Byte) (s : State) : Host.Outcome State Fault Refusal :=
  .next ((portWrite Config.params port data (vgaWriteHandler port data) s).answer .unit)

/-! ### Meanings: the VGA's 22 ports -/

/-- `in 0x3B4`: CRTC index (mono) (R183). -/
def execIn3B4 (s : State) : Host.Outcome State Fault Refusal :=
  .next (answerByte (portRead Config.params 0x3B4 crtcIndexRead s))

/-- `out 0x3B4, DATA`: CRTC index (mono) (R182). -/
def execOut3B4 (data : Byte) (s : State) : Host.Outcome State Fault Refusal :=
  .next ((portWrite Config.params 0x3B4 data (crtcIndexWrite data) s).answer .unit)

/-- `in 0x3B5`: CRTC data (mono) (R187). -/
def execIn3B5 (s : State) : Host.Outcome State Fault Refusal :=
  .next (answerByte (portRead Config.params 0x3B5 (crtcDataRead Config.params) s))

/-- `out 0x3B5, DATA`: CRTC data (mono) (R186). -/
def execOut3B5 (data : Byte) (s : State) : Host.Outcome State Fault Refusal :=
  .next ((portWrite Config.params 0x3B5 data (crtcDataWrite data) s).answer .unit)

/-- `in 0x3BA`: Input Status 1 (mono) (R184). -/
def execIn3BA (s : State) : Host.Outcome State Fault Refusal :=
  .next (answerByte (portRead Config.params 0x3BA (inputStatus1Read Config.params) s))

/-- `out 0x3BA, DATA`: Feature Control (mono) (R185). -/
def execOut3BA (data : Byte) (s : State) : Host.Outcome State Fault Refusal :=
  .next ((portWrite Config.params 0x3BA data (featureCtlWrite data) s).answer .unit)

/-- `in 0x3C0`: Attribute address (R191). -/
def execIn3C0 (s : State) : Host.Outcome State Fault Refusal :=
  .next (answerByte (portRead Config.params 0x3C0 acAddressRead s))

/-- `out 0x3C0, DATA`: Attribute address/data (R190). -/
def execOut3C0 (data : Byte) (s : State) : Host.Outcome State Fault Refusal :=
  .next ((portWrite Config.params 0x3C0 data (acWrite data) s).answer .unit)

/-- `in 0x3C1`: Attribute data (R192). -/
def execIn3C1 (s : State) : Host.Outcome State Fault Refusal :=
  .next (answerByte (portRead Config.params 0x3C1 (acDataRead Config.params) s))

/-- `out 0x3C1, DATA`: none, read-only (R193). -/
def execOut3C1 (data : Byte) (s : State) : Host.Outcome State Fault Refusal :=
  .next ((portWrite Config.params 0x3C1 data (readOnlyWrite 0x3C1 data) s).answer .unit)

/-- `in 0x3C2`: Input Status 0 (R197). -/
def execIn3C2 (s : State) : Host.Outcome State Fault Refusal :=
  .next (answerByte (portRead Config.params 0x3C2 (inputStatus0Read Config.params) s))

/-- `out 0x3C2, DATA`: Misc Output (R196). -/
def execOut3C2 (data : Byte) (s : State) : Host.Outcome State Fault Refusal :=
  .next ((portWrite Config.params 0x3C2 data (miscWrite data) s).answer .unit)

/-- `in 0x3C3`: Video Subsystem Enable (R199). -/
def execIn3C3 (s : State) : Host.Outcome State Fault Refusal :=
  .next (answerByte (portRead Config.params 0x3C3 subsysEnableRead s))

/-- `out 0x3C3, DATA`: Video Subsystem Enable (R198). -/
def execOut3C3 (data : Byte) (s : State) : Host.Outcome State Fault Refusal :=
  .next ((portWrite Config.params 0x3C3 data (subsysEnableWrite data) s).answer .unit)

/-- `in 0x3C4`: Sequencer index (R203). -/
def execIn3C4 (s : State) : Host.Outcome State Fault Refusal :=
  .next (answerByte (portRead Config.params 0x3C4 seqIndexRead s))

/-- `out 0x3C4, DATA`: Sequencer index (R202). -/
def execOut3C4 (data : Byte) (s : State) : Host.Outcome State Fault Refusal :=
  .next ((portWrite Config.params 0x3C4 data (seqIndexWrite data) s).answer .unit)

/-- `in 0x3C5`: Sequencer data (R205). -/
def execIn3C5 (s : State) : Host.Outcome State Fault Refusal :=
  .next (answerByte (portRead Config.params 0x3C5 (seqDataRead Config.params) s))

/-- `out 0x3C5, DATA`: Sequencer data (R204). -/
def execOut3C5 (data : Byte) (s : State) : Host.Outcome State Fault Refusal :=
  .next ((portWrite Config.params 0x3C5 data (seqDataWrite data) s).answer .unit)

/-- `in 0x3C6`: DAC pel mask (R211). -/
def execIn3C6 (s : State) : Host.Outcome State Fault Refusal :=
  .next (answerByte (portRead Config.params 0x3C6 pelMaskRead s))

/-- `out 0x3C6, DATA`: DAC pel mask (R210). -/
def execOut3C6 (data : Byte) (s : State) : Host.Outcome State Fault Refusal :=
  .next ((portWrite Config.params 0x3C6 data (pelMaskWrite data) s).answer .unit)

/-- `in 0x3C7`: DAC state (R213). -/
def execIn3C7 (s : State) : Host.Outcome State Fault Refusal :=
  .next (answerByte (portRead Config.params 0x3C7 dacStateRead s))

/-- `out 0x3C7, DATA`: DAC read address (R212). -/
def execOut3C7 (data : Byte) (s : State) : Host.Outcome State Fault Refusal :=
  .next ((portWrite Config.params 0x3C7 data (dacReadAddrWrite data) s).answer .unit)

/-- `in 0x3C8`: DAC write address (R215). -/
def execIn3C8 (s : State) : Host.Outcome State Fault Refusal :=
  .next (answerByte (portRead Config.params 0x3C8 dacWriteAddrRead s))

/-- `out 0x3C8, DATA`: DAC write address (R214). -/
def execOut3C8 (data : Byte) (s : State) : Host.Outcome State Fault Refusal :=
  .next ((portWrite Config.params 0x3C8 data (dacWriteAddrWrite data) s).answer .unit)

/-- `in 0x3C9`: DAC data (R217). -/
def execIn3C9 (s : State) : Host.Outcome State Fault Refusal :=
  .next (answerByte (portRead Config.params 0x3C9 (dacDataRead Config.params) s))

/-- `out 0x3C9, DATA`: DAC data (R216). -/
def execOut3C9 (data : Byte) (s : State) : Host.Outcome State Fault Refusal :=
  .next ((portWrite Config.params 0x3C9 data (dacDataWrite data) s).answer .unit)

/-- `in 0x3CA`: Feature Control (R220). -/
def execIn3CA (s : State) : Host.Outcome State Fault Refusal :=
  .next (answerByte (portRead Config.params 0x3CA featureCtlRead s))

/-- `out 0x3CA, DATA`: none, read-only (R221). -/
def execOut3CA (data : Byte) (s : State) : Host.Outcome State Fault Refusal :=
  .next ((portWrite Config.params 0x3CA data (readOnlyWrite 0x3CA data) s).answer .unit)

/-- `in 0x3CB`: no register (R224). -/
def execIn3CB (s : State) : Host.Outcome State Fault Refusal :=
  .next (answerByte (portRead Config.params 0x3CB (noRegisterRead 0x3CB) s))

/-- `out 0x3CB, DATA`: no register (R225). -/
def execOut3CB (data : Byte) (s : State) : Host.Outcome State Fault Refusal :=
  .next ((portWrite Config.params 0x3CB data (noRegisterWrite 0x3CB) s).answer .unit)

/-- `in 0x3CC`: Misc Output (R222). -/
def execIn3CC (s : State) : Host.Outcome State Fault Refusal :=
  .next (answerByte (portRead Config.params 0x3CC miscRead s))

/-- `out 0x3CC, DATA`: none, read-only (R223). -/
def execOut3CC (data : Byte) (s : State) : Host.Outcome State Fault Refusal :=
  .next ((portWrite Config.params 0x3CC data (readOnlyWrite 0x3CC data) s).answer .unit)

/-- `in 0x3CD`: no register (R224). -/
def execIn3CD (s : State) : Host.Outcome State Fault Refusal :=
  .next (answerByte (portRead Config.params 0x3CD (noRegisterRead 0x3CD) s))

/-- `out 0x3CD, DATA`: no register (R225). -/
def execOut3CD (data : Byte) (s : State) : Host.Outcome State Fault Refusal :=
  .next ((portWrite Config.params 0x3CD data (noRegisterWrite 0x3CD) s).answer .unit)

/-- `in 0x3CE`: GC index (R229). -/
def execIn3CE (s : State) : Host.Outcome State Fault Refusal :=
  .next (answerByte (portRead Config.params 0x3CE gcIndexRead s))

/-- `out 0x3CE, DATA`: GC index (R228). -/
def execOut3CE (data : Byte) (s : State) : Host.Outcome State Fault Refusal :=
  .next ((portWrite Config.params 0x3CE data (gcIndexWrite data) s).answer .unit)

/-- `in 0x3CF`: GC data (R231). -/
def execIn3CF (s : State) : Host.Outcome State Fault Refusal :=
  .next (answerByte (portRead Config.params 0x3CF (gcDataRead Config.params) s))

/-- `out 0x3CF, DATA`: GC data (R230). -/
def execOut3CF (data : Byte) (s : State) : Host.Outcome State Fault Refusal :=
  .next ((portWrite Config.params 0x3CF data (gcDataWrite data) s).answer .unit)

/-- `in 0x3D4`: CRTC index (colour) (R183). -/
def execIn3D4 (s : State) : Host.Outcome State Fault Refusal :=
  .next (answerByte (portRead Config.params 0x3D4 crtcIndexRead s))

/-- `out 0x3D4, DATA`: CRTC index (colour) (R182). -/
def execOut3D4 (data : Byte) (s : State) : Host.Outcome State Fault Refusal :=
  .next ((portWrite Config.params 0x3D4 data (crtcIndexWrite data) s).answer .unit)

/-- `in 0x3D5`: CRTC data (colour) (R187). -/
def execIn3D5 (s : State) : Host.Outcome State Fault Refusal :=
  .next (answerByte (portRead Config.params 0x3D5 (crtcDataRead Config.params) s))

/-- `out 0x3D5, DATA`: CRTC data (colour) (R186). -/
def execOut3D5 (data : Byte) (s : State) : Host.Outcome State Fault Refusal :=
  .next ((portWrite Config.params 0x3D5 data (crtcDataWrite data) s).answer .unit)

/-- `in 0x3DA`: Input Status 1 (colour) (R184). -/
def execIn3DA (s : State) : Host.Outcome State Fault Refusal :=
  .next (answerByte (portRead Config.params 0x3DA (inputStatus1Read Config.params) s))

/-- `out 0x3DA, DATA`: Feature Control (colour) (R185). -/
def execOut3DA (data : Byte) (s : State) : Host.Outcome State Fault Refusal :=
  .next ((portWrite Config.params 0x3DA data (featureCtlWrite data) s).answer .unit)

end Sys2Proof.Machine
end

