-- ==== Sys2Proof/Machine/Dispatch.lean ====
section
/-! DEFINITION. One arm per transaction: each is one direct call of its meaning. -/

namespace Sys2Proof.Machine

def exec (i : Instr) (s : State) : Host.Outcome State Fault Refusal :=
  match i with
  | .in3B4 => Sys2Proof.Machine.execIn3B4 s
  | .out3B4 data => Sys2Proof.Machine.execOut3B4 data s
  | .in3B5 => Sys2Proof.Machine.execIn3B5 s
  | .out3B5 data => Sys2Proof.Machine.execOut3B5 data s
  | .in3BA => Sys2Proof.Machine.execIn3BA s
  | .out3BA data => Sys2Proof.Machine.execOut3BA data s
  | .in3C0 => Sys2Proof.Machine.execIn3C0 s
  | .out3C0 data => Sys2Proof.Machine.execOut3C0 data s
  | .in3C1 => Sys2Proof.Machine.execIn3C1 s
  | .out3C1 data => Sys2Proof.Machine.execOut3C1 data s
  | .in3C2 => Sys2Proof.Machine.execIn3C2 s
  | .out3C2 data => Sys2Proof.Machine.execOut3C2 data s
  | .in3C3 => Sys2Proof.Machine.execIn3C3 s
  | .out3C3 data => Sys2Proof.Machine.execOut3C3 data s
  | .in3C4 => Sys2Proof.Machine.execIn3C4 s
  | .out3C4 data => Sys2Proof.Machine.execOut3C4 data s
  | .in3C5 => Sys2Proof.Machine.execIn3C5 s
  | .out3C5 data => Sys2Proof.Machine.execOut3C5 data s
  | .in3C6 => Sys2Proof.Machine.execIn3C6 s
  | .out3C6 data => Sys2Proof.Machine.execOut3C6 data s
  | .in3C7 => Sys2Proof.Machine.execIn3C7 s
  | .out3C7 data => Sys2Proof.Machine.execOut3C7 data s
  | .in3C8 => Sys2Proof.Machine.execIn3C8 s
  | .out3C8 data => Sys2Proof.Machine.execOut3C8 data s
  | .in3C9 => Sys2Proof.Machine.execIn3C9 s
  | .out3C9 data => Sys2Proof.Machine.execOut3C9 data s
  | .in3CA => Sys2Proof.Machine.execIn3CA s
  | .out3CA data => Sys2Proof.Machine.execOut3CA data s
  | .in3CB => Sys2Proof.Machine.execIn3CB s
  | .out3CB data => Sys2Proof.Machine.execOut3CB data s
  | .in3CC => Sys2Proof.Machine.execIn3CC s
  | .out3CC data => Sys2Proof.Machine.execOut3CC data s
  | .in3CD => Sys2Proof.Machine.execIn3CD s
  | .out3CD data => Sys2Proof.Machine.execOut3CD data s
  | .in3CE => Sys2Proof.Machine.execIn3CE s
  | .out3CE data => Sys2Proof.Machine.execOut3CE data s
  | .in3CF => Sys2Proof.Machine.execIn3CF s
  | .out3CF data => Sys2Proof.Machine.execOut3CF data s
  | .in3D4 => Sys2Proof.Machine.execIn3D4 s
  | .out3D4 data => Sys2Proof.Machine.execOut3D4 data s
  | .in3D5 => Sys2Proof.Machine.execIn3D5 s
  | .out3D5 data => Sys2Proof.Machine.execOut3D5 data s
  | .in3DA => Sys2Proof.Machine.execIn3DA s
  | .out3DA data => Sys2Proof.Machine.execOut3DA data s
  | .inPort port => Sys2Proof.Machine.execInPort port s
  | .outPort port data => Sys2Proof.Machine.execOutPort port data s
  | .mrd addr => Sys2Proof.Machine.execMrd addr s
  | .mwr addr data => Sys2Proof.Machine.execMwr addr data s
  | .callBind port mref => Sys2Proof.Machine.execCallBind port mref s
  | .callRequestTimer mref interval active => Sys2Proof.Machine.execCallRequestTimer mref interval active s
  | .callSetTimerActive mref active => Sys2Proof.Machine.execCallSetTimerActive mref active s
  | .callResetTimer mref interval => Sys2Proof.Machine.execCallResetTimer mref interval s
  | .callTick tickUs => Sys2Proof.Machine.execCallTick tickUs s
  | .callWire => Sys2Proof.Machine.execCallWire s
  | .callReset => Sys2Proof.Machine.execCallReset s
  | .callStop => Sys2Proof.Machine.execCallStop s
  | .callSetUpdateInterval mref interval => Sys2Proof.Machine.execCallSetUpdateInterval mref interval s
  | .callGetUpdateInterval mref => Sys2Proof.Machine.execCallGetUpdateInterval mref s
  | .callRequestIrq mref => Sys2Proof.Machine.execCallRequestIrq mref s
  | .callSetIrq line => Sys2Proof.Machine.execCallSetIrq line s
  | .callClearIrq line => Sys2Proof.Machine.execCallClearIrq line s
  | .callInta => Sys2Proof.Machine.execCallInta s
  | .callVgaUpdate => Sys2Proof.Machine.execCallVgaUpdate s
  | .callScreenSize => Sys2Proof.Machine.execCallScreenSize s

end Sys2Proof.Machine
end

