-- ==== Sys2Proof/Machine/Step.lean ====
section
/-! DEFINITION. One step: take the next transaction of the stream, decode it, run it to completion
(00_scope.md R11). -/

namespace Sys2Proof.Machine

/-- One step. A faulted state takes no step (10_state.md R48); after STOP no transaction is accepted
(70_reset_and_hazards.md R455); a refused word stays where it is (30_encoding.md R120).
70_reset_and_hazards.md R441 calls every transaction but WIRE and RESET "not meaningful" before the first
RESET and gives it no other effect: it runs here by its ordinary rule. DEDUCED, log 30. -/
def step (s : State) : Host.Outcome State Fault Refusal :=
  match s.faulted with
  | some f => .fault f
  | none =>
    if s.live then
      match s.input with
      | [] => .refused .noTransaction
      | t :: rest =>
        match decode t with
        | .error e => .refused (.reserved e)
        | .ok i => exec i { s with input := rest }
    else .refused .stopped

/-- `s` with the word `w` presented as its next transaction, its side operands zeros, in a state that
takes transactions. Log 1. -/
def State.withFetchWord (s : State) (nbits w : Nat) : State :=
  { s with
    input := Transaction.mk (BitVec.ofNat 32 (w % 2 ^ nbits)) (Side.mk 0 0 0 false 0) :: s.input
    faulted := none
    live := true }

end Sys2Proof.Machine
end

