-- ==== Sys2Proof/Machine/Boot.lean ====
section
/-! DEFINITION. The orchestrator's boot sequence as far as it acts on this block
(70_reset_and_hazards.md R450, R451). The orchestrator is surrounding software (00_scope.md R5): `boot`
is no transaction, it is what the outside does before it presents any. Log 25. -/

namespace Sys2Proof.Machine

/-- What the orchestrator brings to a boot. -/
structure BootPlan where
  /-- The modules, in creation order. -/
  modules : List Module
  /-- The per-module timing parameters it pushes. -/
  timing : List (ModuleRef × Int)
  /-- The setup steps that fail for a cause outside this block (60_exceptions.md R401: "unreadable BIOS
  image, malformed setting"). -/
  failures : List SetupStep
  /-- The debug-mode flags it applies last. -/
  debugFlags : List (ModuleRef × Bool)
deriving DecidableEq, Repr

/-- Whether `a` is created before `b`, where both are created. -/
def createdBefore (ks : List ModuleType) (a b : ModuleType) : Bool :=
  !(ks.contains a && ks.contains b) || decide (ks.idxOf a < ks.idxOf b)

/-- The device types of R21 that "other devices" ranges over. -/
def deviceTypes : List ModuleType := [.pit, .ata, .fdc, .keyboard, .mouse, .video, .screen]

/-- The creation order R450 asks for: clock before memory, motherboard before any other I/O device, PIC
immediately after motherboard, RTC before other devices. Log 25. -/
def creationOrderOk (ks : List ModuleType) : Bool :=
  createdBefore ks (.other "clock") .memory &&
    (.pic :: .rtc :: deviceTypes).all (createdBefore ks .motherboard) &&
    (!(ks.contains .motherboard && ks.contains .pic) ||
      ks.idxOf .pic == ks.idxOf .motherboard + 1) &&
    deviceTypes.all (createdBefore ks .rtc)

/-- Create modules: the registry built with `add`; a creation order R450 forbids fails the step. -/
def createModules (ms : List Module) (s : State) : State × Bool :=
  (s.setModules (ms.foldl registryAdd []), creationOrderOk (ms.map Module.kind))

/-- Push the per-module timing parameters: SET_UPDATE_INTERVAL for each. -/
def pushTiming (C : Params) (ts : List (ModuleRef × Int)) (s : State) : State :=
  ts.foldl (fun t x => resetTimer C x.1 x.2 t) s

/-- Apply one debug-mode flag. -/
def applyDebug (s : State) (x : ModuleRef × Bool) : State :=
  s.setModules (s.modules.modify x.1 fun m => { m with debug := x.2 })

/-- A step that does not touch this block. -/
def outsideStep (s : State) : State × Bool := (s, true)

/-- The setup steps in R450's order, each with what it does to the block and the answer this block gives
it. The spec gives WIRE and SET_UPDATE_INTERVAL no result, so neither a missing dependency nor a push that
finds no timer makes its step false here: only `BootPlan.failures` does. DESIGN CHOICE, log 25. -/
def bootSteps (C : Params) (plan : BootPlan) : List (SetupStep × (State → State × Bool)) :=
  [(.createModules, createModules plan.modules),
   (.wire, fun s => (wireOp s, true)),
   (.pushTiming, fun s => (pushTiming C plan.timing s, true)),
   (.resetModules, resetOp C),
   (.initScreen, outsideStep),
   (.mouseMemoryParameters, outsideStep),
   (.loadBios, outsideStep),
   (.storageParameters, outsideStep),
   (.bootOrder, outsideStep),
   (.debugFlags, fun s => (plan.debugFlags.foldl applyDebug s, true))]

/-- Run one setup step; a failure, RESET's among them, is recorded as E_CONFIG with the step
(60_exceptions.md R401) and answers false. -/
def setupStep (failures : List SetupStep) (x : SetupStep × (State → State × Bool)) (s : State) :
    State × Bool :=
  let r := x.2 s
  if r.2 && !failures.contains x.1 then (r.1, true) else (r.1.record (.config x.1), false)

/-- The boot sequence (R450): every step in order, its answer "boolean-ANDed into an overall success
flag"; a failed step does not stop the next; the overall result gates whether the main loop starts. -/
def boot (C : Params) (plan : BootPlan) (s : State) : State × Bool :=
  let r := andAll ((bootSteps C plan).map (setupStep plan.failures)) s
  ({ r.1 with live := r.1.live && r.2 }, r.2)

end Sys2Proof.Machine
end

