-- ==== Sys2Proof/Safety.lean ====
section
/-! DEFINITION. The terms claims are stated in: what a legal state is, when the VGA answers a port, what
one byte of a plane reads as, and runs of several transactions. -/

namespace Sys2Proof.Machine

/-- A run is safe while the state is not faulted (60_exceptions.md R402). -/
def State.Safe (s : State) : Prop := s.faulted = none

/-- The block accepts a transaction: no fault, no STOP yet. -/
def State.Accepts (s : State) : Prop := s.faulted = none ∧ s.live = true

/-- The bus dispatches the port to the VGA and the mode-consistency gate answers
(40_bus.md R143, 41_vga_ports.md R180). -/
def State.VgaAnswers (s : State) (p : Port) : Prop :=
  ∃ m, s.bus.portOwner p = some m ∧ s.isVideo m = true ∧ s.vga.gatePasses p = true

/-- The bus dispatches the port to the VGA and the gate does not answer (41_vga_ports.md R181). -/
def State.VgaMismatch (s : State) (p : Port) : Prop :=
  ∃ m, s.bus.portOwner p = some m ∧ s.isVideo m = true ∧ s.vga.gatePasses p = false

/-- What byte `i` of plane `p` reads as. -/
def State.planeByte (s : State) (p : Fin 4) (i : BitVec 16) : Byte :=
  planeRead Config.params s.vga.planes p i

/-- A tile of the grid (10_state.md R41). -/
def InGrid (t : Tile) : Prop :=
  t.col < Config.params.gridCols ∧ t.row < Config.params.gridRows

/-- The legal states: every state a run reaches is one.
The canonical forms of memory, port map and tiles are the model's; the others are the invariants of
10_state.md R22, R23, R25 and the guard of 44_pic.md R322. -/
structure State.Inv (s : State) : Prop where
  /-- Memory keeps its canonical form. -/
  memory : Memory.wf s.vga.planes = true
  /-- "a port number maps to at most one module at any time" (R22), each a 16-bit number. -/
  ports : portMapWf s.bus.portMap = true
  /-- "interval > 0 after normalization" (R23). -/
  intervals : ∀ e ∈ s.bus.timers, 0 < e.interval
  /-- "At most one entry per module" (R23). -/
  timers : (s.bus.timers.map Timer.owner).Nodup
  /-- Only an owned line is raised (R322, R25). -/
  raised : ∀ n : Line, s.pic.raised.get n = true → (s.pic.owner.get n).isSome = true
  /-- A module owns at most one line (R321). -/
  owners : ∀ (a b : Line) (m : ModuleRef),
    s.pic.owner.get a = some m → s.pic.owner.get b = some m → a = b
  /-- The clean tiles are tiles of the grid, in canonical form. -/
  tiles : cleanWf Config.params s.vga.clean = true

/-- One bit of the four data operations: 0 replace, 1 AND, 2 OR, 3 XOR (42_vga_memory_codec.md R260). -/
def bitOp (fn : BitVec 2) (d l : Bool) : Bool :=
  match fn with
  | 0#2 => d
  | 1#2 => d && l
  | 2#2 => d || l
  | 3#2 => Bool.xor d l

/-- A window write at an inside offset stores at least one byte: the `Stored` of
42_vga_memory_codec.md R262 and R263. -/
def WriteStores (v : Vga) (off : BitVec 16) : Prop :=
  if v.chain4 = true then
    Config.params.chain4Write = .raw ∨ v.seq[2].getLsbD (off.toNat % 4) = true
  else ∃ q : Fin 4, v.seq[2].getLsbD q = true

/-- The screen pixel (x, y) is one of those the byte at offset `off` covers in graphics mode, for a line
offset that is not 0 (42_vga_memory_codec.md R270). -/
def CoversPixel (v : Vga) (off : BitVec 16) (x y : Nat) : Prop :=
  let rel := (off - v.startAddr).toNat
  let ppb := if v.chain4 then 2 else 8
  rel % v.lineOffset * ppb ≤ x ∧ x < (rel % v.lineOffset + 1) * ppb ∧
    (if v.doubleScan then y / 2 else y) = rel / v.lineOffset

/-- Tile `t` covers the screen pixel (x, y) (10_state.md R41). -/
def TileCovers (t : Tile) (x y : Nat) : Prop :=
  t.col * Config.params.xTileSize ≤ x ∧ x < (t.col + 1) * Config.params.xTileSize ∧
    t.row * Config.params.yTileSize ≤ y ∧ y < (t.row + 1) * Config.params.yTileSize

/-- The byte at offset `off` has a pixel in tile `t`. -/
def Touches (v : Vga) (off : BitVec 16) (t : Tile) : Prop :=
  ∃ x y, CoversPixel v off x y ∧ TileCovers t x y

/-- The module an `Update` event names. -/
def updateOwner : OutEvent → Option ModuleRef
  | .update m => some m
  | .resize _ _ => none
  | .tileRedraw _ _ => none
  | .textRedraw _ _ _ _ _ => none
  | .fontWrite _ _ => none

/-- The adapter once an update has announced its screen size: a changed size is stored and makes every
tile dirty (43_vga_display.md R296). -/
def announced (v : Vga) : Vga :=
  if v.lastSize = some (v.screenSize Config.params) then v
  else { v with lastSize := some (v.screenSize Config.params), clean := [] }

/-- What the announcement sends to the screen (43_vga_display.md R296). -/
def resizeEvents (v : Vga) : List OutEvent :=
  let size := v.screenSize Config.params
  if v.lastSize = some size then [] else [.resize size.1 size.2]

/-- The redraws of a list of tiles in order, each with RENDER's pixels of the adapter at that moment: the
tiles before it are clean by then (43_vga_display.md R298, R301; log 22). -/
def redrawEvents : Vga → List Tile → List OutEvent
  | _, [] => []
  | v, t :: ts => .tileRedraw t (Config.params.render v (.tile t)) :: redrawEvents (clearTile t v) ts

/-- The setup step an E_CONFIG entry names (60_exceptions.md R401). -/
def configStep : LogEvent → Option SetupStep
  | .config x => some x
  | .bindConflict _ _ _ => none
  | .unboundPort _ _ => none
  | .modeMismatch _ => none
  | .roPort _ _ => none
  | .noRegister _ => none
  | .badIndex _ _ => none
  | .protectedIndex _ => none
  | .noTimer _ => none
  | .irqExhausted _ => none
  | .irqInvalid _ => none
  | .wiring _ _ => none
  | .device _ => none

/-- The setup steps in the order of 70_reset_and_hazards.md R450. -/
def setupOrder : List SetupStep :=
  [.createModules, .wire, .pushTiming, .resetModules, .initScreen, .mouseMemoryParameters, .loadBios,
    .storageParameters, .bootOrder, .debugFlags]

/-- The normalised interval (40_bus.md R147). -/
def intervalFor (m : ModuleRef) (i : Int) : Nat :=
  if 0 < i then i.toNat else Config.params.defaultIntervalUs m

/-- Some module of the list has the type (40_bus.md R161: `Get(t)` finds one). -/
def HasKind (ms : List Module) (k : ModuleType) : Prop := ∃ m ∈ ms, m.kind = k

/-- Run a list of transactions, each from the state the one before it left; a fault or a refusal ends
the run. -/
def execAll : List Instr → State → Host.Outcome State Fault Refusal
  | [], s => .next s
  | i :: is, s =>
    match exec i s with
    | .next t => execAll is t
    | .fault f => .fault f
    | .refused r => .refused r

/-- Run a list of transactions and collect what each returned to its caller. -/
def execResults : List Instr → State → List Result
  | [], _ => []
  | i :: is, s =>
    match exec i s with
    | .next t => t.result :: execResults is t
    | .fault _ => []
    | .refused _ => []

end Sys2Proof.Machine
end

