-- ==== Sys2Proof/Certificates/Slice0/Obligations.lean ====
section
/-! DEFINITION. The statements for the provers, each over every state. -/

open Sys2Proof Sys2Proof.Machine

/-! ### VGA ports (41_vga_ports.md) -/

/-- R182, R185, R198, R202, R210, R228: an answered write of a register that is stored whole sets that
register and nothing else. -/
def Obligations.PlainRegisterWrites : Prop :=
  ∀ (s : State) (d : Byte),
    (s.VgaAnswers 0x3B4 → exec (.out3B4 d) s =
      .next { s with vga := { s.vga with crtcIndex := d }, result := .unit }) ∧
    (s.VgaAnswers 0x3D4 → exec (.out3D4 d) s =
      .next { s with vga := { s.vga with crtcIndex := d }, result := .unit }) ∧
    (s.VgaAnswers 0x3C4 → exec (.out3C4 d) s =
      .next { s with vga := { s.vga with seqIndex := d }, result := .unit }) ∧
    (s.VgaAnswers 0x3CE → exec (.out3CE d) s =
      .next { s with vga := { s.vga with gcIndex := d }, result := .unit }) ∧
    (s.VgaAnswers 0x3BA → exec (.out3BA d) s =
      .next { s with vga := { s.vga with featureCtl := d }, result := .unit }) ∧
    (s.VgaAnswers 0x3DA → exec (.out3DA d) s =
      .next { s with vga := { s.vga with featureCtl := d }, result := .unit }) ∧
    (s.VgaAnswers 0x3C3 → exec (.out3C3 d) s =
      .next { s with vga := { s.vga with subsysEnable := d }, result := .unit }) ∧
    (s.VgaAnswers 0x3C6 → exec (.out3C6 d) s =
      .next { s with vga := { s.vga with pelMask := d }, result := .unit })

/-- R183, R199, R203, R211, R215, R220, R222, R229: the read returns its register, with no side effect. -/
def Obligations.PlainRegisterReads : Prop :=
  ∀ s : State,
    (s.VgaAnswers 0x3B4 → exec .in3B4 s = .next { s with result := .byte s.vga.crtcIndex }) ∧
    (s.VgaAnswers 0x3D4 → exec .in3D4 s = .next { s with result := .byte s.vga.crtcIndex }) ∧
    (s.VgaAnswers 0x3C4 → exec .in3C4 s = .next { s with result := .byte s.vga.seqIndex }) ∧
    (s.VgaAnswers 0x3CE → exec .in3CE s = .next { s with result := .byte s.vga.gcIndex }) ∧
    (s.VgaAnswers 0x3C3 → exec .in3C3 s = .next { s with result := .byte s.vga.subsysEnable }) ∧
    (s.VgaAnswers 0x3C6 → exec .in3C6 s = .next { s with result := .byte s.vga.pelMask }) ∧
    (s.VgaAnswers 0x3C8 → exec .in3C8 s = .next { s with result := .byte s.vga.dacWAddr }) ∧
    (s.VgaAnswers 0x3CA → exec .in3CA s = .next { s with result := .byte s.vga.featureCtl }) ∧
    (s.VgaAnswers 0x3CC → exec .in3CC s = .next { s with result := .byte s.vga.misc })

/-- R196: a Misc Output write stores the byte, and the gate of R180 uses its bit 0 from the next
transaction on: the colour group's ports answer exactly when it is 1, the mono group's when it is 0. -/
def Obligations.MiscWriteSwitchesGroups : Prop :=
  ∀ (s : State) (d : Byte), s.VgaAnswers 0x3C2 →
    ∃ t, exec (.out3C2 d) s = .next t ∧
      t = { s with vga := { s.vga with misc := d }, result := .unit } ∧
      ∀ p ∈ vgaPorts, s.bus.portOwner p = s.bus.portOwner 0x3C2 →
        (t.VgaAnswers p ↔
          (p ∈ [0x3B4#16, 0x3B5#16, 0x3BA#16] → d.getLsbD 0 = false) ∧
          (p ∈ [0x3D4#16, 0x3D5#16, 0x3DA#16] → d.getLsbD 0 = true))

/-- R186: the CRTC data write, its range check, its write protection and its exception for bit 4 of
register 0x07. -/
def Obligations.CrtcDataWrite : Prop :=
  ∀ (s : State) (d : Byte) (p : Port) (i : Instr),
    (p = 0x3B5 ∧ i = .out3B5 d ∨ p = 0x3D5 ∧ i = .out3D5 d) → s.VgaAnswers p →
    (0x18 < s.vga.crtcIndex.toNat → exec i s =
      .next { s with log := s.log ++ [.badIndex .crtc s.vga.crtcIndex], result := .unit }) ∧
    (s.vga.crtc[0x11].getLsbD 7 = true → s.vga.crtcIndex.toNat < 0x07 → exec i s =
      .next { s with log := s.log ++ [.protectedIndex s.vga.crtcIndex], result := .unit }) ∧
    (s.vga.crtc[0x11].getLsbD 7 = true → s.vga.crtcIndex = 0x07 → exec i s =
      .next { s with
        vga := { s.vga with
          crtc := s.vga.crtc.set 0x07 ((s.vga.crtc[0x07] &&& 0xEF) ||| (d &&& 0x10)) }
        log := s.log ++ [.protectedIndex 0x07]
        result := .unit }) ∧
    (∀ h : s.vga.crtcIndex.toNat < 25,
      s.vga.crtc[0x11].getLsbD 7 = false ∨ 0x07 < s.vga.crtcIndex.toNat → exec i s =
        .next { s with
          vga := { s.vga with crtc := s.vga.crtc.set s.vga.crtcIndex.toNat d }
          result := .unit })

/-- R187: the CRTC data read; outside the bank the byte is free. -/
def Obligations.CrtcDataRead : Prop :=
  ∀ (s : State) (p : Port) (i : Instr),
    (p = 0x3B5 ∧ i = .in3B5 ∨ p = 0x3D5 ∧ i = .in3D5) → s.VgaAnswers p →
    (∀ h : s.vga.crtcIndex.toNat < 25, exec i s =
      .next { s with result := .byte s.vga.crtc[s.vga.crtcIndex.toNat] }) ∧
    (0x18 < s.vga.crtcIndex.toNat → ∃ b, exec i s =
      .next { s with
        log := s.log ++ [.badIndex .crtc s.vga.crtcIndex]
        result := .byte b
        draws := s.draws + 1 })

/-- R184, R197: an Input Status 1 read resets the flip-flop to ADDRESS and returns two drawn bits, at bits
0 and 3; an Input Status 0 read returns a drawn byte and changes nothing else. -/
def Obligations.StatusReads : Prop :=
  (∀ (s : State) (p : Port) (i : Instr),
    (p = 0x3BA ∧ i = .in3BA ∨ p = 0x3DA ∧ i = .in3DA) → s.VgaAnswers p →
    ∃ de vr : BitVec 1, exec i s =
      .next { s with
        vga := { s.vga with acFlip := .address }
        result := .byte (de.setWidth 8 ||| vr.setWidth 8 <<< 3)
        draws := s.draws + 1 }) ∧
  (∀ s : State, s.VgaAnswers 0x3C2 →
    ∃ b, exec .in3C2 s = .next { s with result := .byte b, draws := s.draws + 1 })

/-- R190: the address phase, the data phase inside the bank, and the data phase outside it; each write
toggles the flip-flop once. -/
def Obligations.AttributeWrite : Prop :=
  ∀ (s : State) (d : Byte), s.VgaAnswers 0x3C0 →
    (s.vga.acFlip = .address → exec (.out3C0 d) s =
      .next { s with
        vga := { s.vga with
          acIndex := d.extractLsb' 0 5, acPas := d.extractLsb' 5 1, acFlip := .data }
        result := .unit }) ∧
    (s.vga.acFlip = .data → ∀ h : s.vga.acIndex.toNat < 21, exec (.out3C0 d) s =
      .next { s with
        vga := { s.vga with ac := s.vga.ac.set s.vga.acIndex.toNat d, acFlip := .address }
        result := .unit }) ∧
    (s.vga.acFlip = .data → 0x14 < s.vga.acIndex.toNat → exec (.out3C0 d) s =
      .next { s with
        vga := { s.vga with acFlip := .address }
        log := s.log ++ [.badIndex .attrCtl (s.vga.acIndex.setWidth 8)]
        result := .unit })

/-- R191, R192: the Attribute Controller's reads leave the flip-flop and everything else alone; the data
read outside the bank is a draw. -/
def Obligations.AttributeReads : Prop :=
  ∀ s : State,
    (s.VgaAnswers 0x3C0 → exec .in3C0 s =
      .next { s with
        result := .byte (s.vga.acPas.setWidth 8 <<< 5 ||| s.vga.acIndex.setWidth 8) }) ∧
    (s.VgaAnswers 0x3C1 → ∀ h : s.vga.acIndex.toNat < 21, exec .in3C1 s =
      .next { s with result := .byte s.vga.ac[s.vga.acIndex.toNat] }) ∧
    (s.VgaAnswers 0x3C1 → 0x14 < s.vga.acIndex.toNat → ∃ b, exec .in3C1 s =
      .next { s with
        log := s.log ++ [.badIndex .attrCtl (s.vga.acIndex.setWidth 8)]
        result := .byte b
        draws := s.draws + 1 })

/-- R204, R205, R230, R231: the data ports of the Sequencer and the Graphics Controller, inside and
outside the bank; no index reaches a latch. -/
def Obligations.IndexedBankData : Prop :=
  (∀ (s : State) (d : Byte), s.VgaAnswers 0x3C5 →
    (∀ h : s.vga.seqIndex.toNat < 5,
      exec (.out3C5 d) s =
        .next { s with
          vga := { s.vga with seq := s.vga.seq.set s.vga.seqIndex.toNat d }, result := .unit } ∧
      exec .in3C5 s = .next { s with result := .byte s.vga.seq[s.vga.seqIndex.toNat] }) ∧
    (0x04 < s.vga.seqIndex.toNat →
      exec (.out3C5 d) s =
        .next { s with
          log := s.log ++ [.badIndex .sequencer s.vga.seqIndex], result := .unit } ∧
      ∃ b, exec .in3C5 s =
        .next { s with
          log := s.log ++ [.badIndex .sequencer s.vga.seqIndex]
          result := .byte b
          draws := s.draws + 1 })) ∧
  (∀ (s : State) (d : Byte), s.VgaAnswers 0x3CF →
    (∀ h : s.vga.gcIndex.toNat < 9,
      exec (.out3CF d) s =
        .next { s with
          vga := { s.vga with gc := s.vga.gc.set s.vga.gcIndex.toNat d }, result := .unit } ∧
      exec .in3CF s = .next { s with result := .byte s.vga.gc[s.vga.gcIndex.toNat] }) ∧
    (0x08 < s.vga.gcIndex.toNat →
      exec (.out3CF d) s =
        .next { s with
          log := s.log ++ [.badIndex .graphics s.vga.gcIndex], result := .unit } ∧
      ∃ b, exec .in3CF s =
        .next { s with
          log := s.log ++ [.badIndex .graphics s.vga.gcIndex]
          result := .byte b
          draws := s.draws + 1 }))

/-- R212, R213, R214: the DAC's address writes and its state read. -/
def Obligations.DacAddressAndState : Prop :=
  ∀ (s : State) (d : Byte),
    (s.VgaAnswers 0x3C7 → exec (.out3C7 d) s =
      .next { s with
        vga := { s.vga with dacRAddr := d, dacRPhase := 0, dacState := .read }
        result := .unit }) ∧
    (s.VgaAnswers 0x3C8 → exec (.out3C8 d) s =
      .next { s with
        vga := { s.vga with dacWAddr := d, dacWPhase := 0, dacState := .write }
        result := .unit }) ∧
    (s.VgaAnswers 0x3C7 → s.vga.dacState = .read →
      exec .in3C7 s = .next { s with result := .byte 0x03 }) ∧
    (s.VgaAnswers 0x3C7 → s.vga.dacState = .write →
      exec .in3C7 s = .next { s with result := .byte 0x00 })

/-- R216: a DAC data write stores one component, and the write counter cycles 0, 1, 2, 0 with the
address moving on (modulo 256) after a full triple. Everything else stays. -/
def Obligations.DacDataWrite : Prop :=
  ∀ (s : State) (d : Byte), s.VgaAnswers 0x3C9 →
    ∃ t, exec (.out3C9 d) s = .next t ∧
      (∀ a c, paletteRead t.vga a c =
        if a = s.vga.dacWAddr ∧ c = s.vga.dacWPhase then d else paletteRead s.vga a c) ∧
      (s.vga.dacWPhase = 2 → t.vga.dacWPhase = 0 ∧
        t.vga.dacWAddr.toNat = (s.vga.dacWAddr.toNat + 1) % 256) ∧
      (s.vga.dacWPhase ≠ 2 → t.vga.dacWPhase.val = s.vga.dacWPhase.val + 1 ∧
        t.vga.dacWAddr = s.vga.dacWAddr) ∧
      t = { s with
        vga := { s.vga with
          palette := t.vga.palette, dacWAddr := t.vga.dacWAddr, dacWPhase := t.vga.dacWPhase }
        result := .unit }

/-- R217: a DAC data read returns DAC_READ_XFORM of the component and moves the read counter alone; a
write never moves the read counter. -/
def Obligations.DacDataRead : Prop :=
  ∀ s : State, s.VgaAnswers 0x3C9 →
    (∀ d, ∃ t, exec (.out3C9 d) s = .next t ∧
      t.vga.dacRAddr = s.vga.dacRAddr ∧ t.vga.dacRPhase = s.vga.dacRPhase) ∧
    ∃ t, exec .in3C9 s = .next t ∧
      (s.vga.dacRPhase = 2 → t.vga.dacRPhase = 0 ∧
        t.vga.dacRAddr.toNat = (s.vga.dacRAddr.toNat + 1) % 256) ∧
      (s.vga.dacRPhase ≠ 2 → t.vga.dacRPhase.val = s.vga.dacRPhase.val + 1 ∧
        t.vga.dacRAddr = s.vga.dacRAddr) ∧
      t = { s with
        vga := { s.vga with dacRAddr := t.vga.dacRAddr, dacRPhase := t.vga.dacRPhase }
        result := .byte
          (Config.params.dacReadXform (paletteRead s.vga s.vga.dacRAddr s.vga.dacRPhase)) }

/-- R218: (a) after 3k+r bytes from address A the write address is A+k (modulo 256) and the phase r;
(b) three bytes written from A and read back from A return DAC_READ_XFORM of each, in order. -/
def Obligations.DacProperties : Prop :=
  ∀ (s : State) (A : Byte), s.VgaAnswers 0x3C8 → s.VgaAnswers 0x3C9 →
    (∀ ds : List Byte, ∃ t, execAll (.out3C8 A :: ds.map .out3C9) s = .next t ∧
      t.vga.dacWAddr.toNat = (A.toNat + ds.length / 3) % 256 ∧
      t.vga.dacWPhase.val = ds.length % 3) ∧
    (s.VgaAnswers 0x3C7 → ∀ r g b : Byte,
      execResults (pseudoDacw A r g b ++ pseudoDacr A) s =
        [.unit, .unit, .unit, .unit, .unit,
          .byte (Config.params.dacReadXform r), .byte (Config.params.dacReadXform g),
          .byte (Config.params.dacReadXform b)])

/-- R193, R221, R223, R224, R225: the read-only ports and the ports with no register. That the log entry
of a write to a read-only port carries the value too is the model's reading: 60_exceptions.md R401's table
over the port alone of R193, R221 and R223 (log 24, DEDUCED). -/
def Obligations.ReadOnlyAndUnusedPorts : Prop :=
  ∀ (s : State) (d : Byte),
    (s.VgaAnswers 0x3C1 → exec (.out3C1 d) s =
      .next { s with log := s.log ++ [.roPort 0x3C1 d], result := .unit }) ∧
    (s.VgaAnswers 0x3CA → exec (.out3CA d) s =
      .next { s with log := s.log ++ [.roPort 0x3CA d], result := .unit }) ∧
    (s.VgaAnswers 0x3CC → exec (.out3CC d) s =
      .next { s with log := s.log ++ [.roPort 0x3CC d], result := .unit }) ∧
    (s.VgaAnswers 0x3CB →
      exec .in3CB s =
        .next { s with log := s.log ++ [.noRegister 0x3CB], result := .byte 0xFF } ∧
      exec (.out3CB d) s =
        .next { s with log := s.log ++ [.noRegister 0x3CB], result := .unit }) ∧
    (s.VgaAnswers 0x3CD →
      exec .in3CD s =
        .next { s with log := s.log ++ [.noRegister 0x3CD], result := .byte 0xFF } ∧
      exec (.out3CD d) s =
        .next { s with log := s.log ++ [.noRegister 0x3CD], result := .unit })

/-- R181 under the gate of R180: a bound port of the inactive group reads as 0xFF and ignores writes, with
E_MODE_MISMATCH and no other change. -/
def Obligations.InactiveGroupIsSilent : Prop :=
  ∀ (s : State) (p : Port) (m : ModuleRef) (d : Byte),
    s.bus.portOwner p = some m → s.isVideo m = true →
    (p ∈ [0x3B4#16, 0x3B5#16, 0x3BA#16] ∧ s.vga.misc.getLsbD 0 = true ∨
      p ∈ [0x3D4#16, 0x3D5#16, 0x3DA#16] ∧ s.vga.misc.getLsbD 0 = false) →
    exec (portReadInstr p) s =
      .next { s with log := s.log ++ [.modeMismatch p], result := .byte 0xFF } ∧
    exec (portWriteInstr p d) s =
      .next { s with log := s.log ++ [.modeMismatch p], result := .unit }

/-- R194: a status read of the colour group, then an address write and a data write; and no well-formed
transaction but a 0x3C0 write, a status read or RESET changes the flip-flop. -/
def Obligations.FlipFlopDiscipline : Prop :=
  (∀ (s : State) (x y : Byte), s.VgaAnswers 0x3DA → s.VgaAnswers 0x3C0 →
    ∃ t, execAll [.in3DA, .out3C0 x, .out3C0 y] s = .next t ∧
      t.vga.acFlip = .address ∧ t.vga.acIndex = x.extractLsb' 0 5 ∧
      ∀ h : (x.extractLsb' 0 5).toNat < 21, t.vga.ac[(x.extractLsb' 0 5).toNat] = y) ∧
  (∀ (s t : State) (d : Byte), s.VgaAnswers 0x3C0 → exec (.out3C0 d) s = .next t →
    t.vga.acFlip ≠ s.vga.acFlip) ∧
  (∀ (s t : State) (i : Instr), i.wellFormed = true → exec i s = .next t →
    t.vga.acFlip ≠ s.vga.acFlip →
    (∃ d, i = .out3C0 d) ∨
    (t.vga.acFlip = .address ∧ (i = .in3BA ∧ s.VgaAnswers 0x3BA ∨ i = .in3DA ∧ s.VgaAnswers 0x3DA)) ∨
    i = .callReset)

/-! ### Bus (40_bus.md) -/

/-- R144, R146: an access to a port nobody owns, for every row a port word decodes to. -/
def Obligations.UnboundPorts : Prop :=
  ∀ (s : State) (p : Port) (d : Byte), s.bus.portOwner p = none →
    exec (portReadInstr p) s =
      .next { s with log := s.log ++ [.unboundPort p none], result := .byte 0xFF } ∧
    exec (portWriteInstr p d) s =
      .next { s with log := s.log ++ [.unboundPort p (some d)], result := .unit } ∧
    exec (.inPort p) s =
      .next { s with log := s.log ++ [.unboundPort p none], result := .byte 0xFF } ∧
    exec (.outPort p d) s =
      .next { s with log := s.log ++ [.unboundPort p (some d)], result := .unit }

/-- R112, R113, R143, R145: each of the 22 VGA rows is the generic dispatch at its own port. -/
def Obligations.PortRowsAgreeWithDispatch : Prop :=
  ∀ (s : State) (p : Port) (d : Byte),
    exec (portReadInstr p) s = exec (.inPort p) s ∧
    exec (portWriteInstr p d) s = exec (.outPort p d) s

/-- R143, R145 for a port that another module owns: some byte is returned, and no state of the block
changes but the log, when that module reports a device error (R403). For a port outside the 22 that BIND
has given to a module of type "video": no gate is evaluated (R180), the read is a draw and the write
changes nothing. Both frames are the model's choice, logs 14, 15 and 16. -/
def Obligations.PortsWithoutARule : Prop :=
  (∀ (s : State) (p : Port) (m : ModuleRef) (d : Byte),
    s.bus.portOwner p = some m → s.isVideo m = false →
    (∃ t b, exec (portReadInstr p) s = .next t ∧ t.result = .byte b ∧
      (t.log = s.log ∧ t.shutdown = s.shutdown ∨
        t.log = s.log ++ [.device m] ∧ t.shutdown = true) ∧
      t = { s with
        log := t.log, shutdown := t.shutdown, result := .byte b, draws := s.draws + 2 }) ∧
    (∃ t, exec (portWriteInstr p d) s = .next t ∧
      (t.log = s.log ∧ t.shutdown = s.shutdown ∨
        t.log = s.log ++ [.device m] ∧ t.shutdown = true) ∧
      t = { s with
        log := t.log, shutdown := t.shutdown, result := .unit, draws := s.draws + 1 })) ∧
  (∀ (s : State) (p : Port) (m : ModuleRef) (d : Byte), p ∉ vgaPorts →
    s.bus.portOwner p = some m → s.isVideo m = true →
    (∃ b, exec (portReadInstr p) s =
      .next { s with result := .byte b, draws := s.draws + 1 }) ∧
    exec (portWriteInstr p d) s = .next { s with result := .unit })

/-- R141: a new binding, the same binding again, and a rejected one. -/
def Obligations.BindRule : Prop :=
  ∀ (s : State) (p : Port) (m : ModuleRef),
    (s.bus.portOwner p = none → ∃ t, exec (.callBind p m) s = .next t ∧
      (∀ q, t.bus.portOwner q = if q = p then some m else s.bus.portOwner q) ∧
      t = { s with bus := { s.bus with portMap := t.bus.portMap }, result := .bool true }) ∧
    (s.bus.portOwner p = some m →
      exec (.callBind p m) s = .next { s with result := .bool true }) ∧
    (∀ o, s.bus.portOwner p = some o → o ≠ m → exec (.callBind p m) s =
      .next { s with log := s.log ++ [.bindConflict p o m], result := .bool false })

/-- R142 over a run of binds: a port once bound keeps its module, whatever binds follow. -/
def Obligations.BindingsAreKept : Prop :=
  ∀ (bs : List (Port × ModuleRef)) (s : State),
    ∃ t, execAll (bs.map fun b => .callBind b.1 b.2) s = .next t ∧
      (∀ p m, s.bus.portOwner p = some m → t.bus.portOwner p = some m) ∧
      (∀ p m, t.bus.portOwner p = some m → s.bus.portOwner p = some m ∨ (p, m) ∈ bs)

/-- R147, R148: the module's first entry renewed in place with acc 0, or a new last entry. -/
def Obligations.RequestTimerRule : Prop :=
  ∀ (s : State) (m : ModuleRef) (i : Int) (a : Bool),
    ((∀ e ∈ s.bus.timers, e.owner ≠ m) → exec (.callRequestTimer m i a) s =
      .next { s with
        bus := { s.bus with timers := s.bus.timers ++ [Timer.mk m (intervalFor m i) a 0] }
        result := .unit }) ∧
    (∀ pre e post, s.bus.timers = pre ++ e :: post → e.owner = m →
      (∀ x ∈ pre, x.owner ≠ m) → exec (.callRequestTimer m i a) s =
      .next { s with
        bus := { s.bus with timers := pre ++ Timer.mk m (intervalFor m i) a 0 :: post }
        result := .unit })

/-- R149, R150, R156, R157: the calls on an existing timer entry, and E_NO_TIMER without one. That
SET_UPDATE_INTERVAL of a module with no entry leaves nothing behind but E_NO_TIMER is the model's reading
of R156 (log 28, DEDUCED). -/
def Obligations.TimerCalls : Prop :=
  ∀ (s : State) (m : ModuleRef) (i : Int) (a : Bool),
    (∀ pre e post, s.bus.timers = pre ++ e :: post → e.owner = m →
      (∀ x ∈ pre, x.owner ≠ m) →
      exec (.callSetTimerActive m a) s =
        .next { s with
          bus := { s.bus with timers := pre ++ { e with active := a } :: post }
          result := .unit } ∧
      exec (.callResetTimer m i) s =
        .next { s with
          bus := { s.bus with
            timers := pre ++ { e with interval := intervalFor m i, acc := 0 } :: post }
          result := .unit } ∧
      exec (.callSetUpdateInterval m i) s =
        .next { s with
          bus := { s.bus with
            timers := pre ++ { e with interval := intervalFor m i, acc := 0 } :: post }
          result := .unit } ∧
      exec (.callGetUpdateInterval m) s = .next { s with result := .nat e.interval }) ∧
    ((∀ e ∈ s.bus.timers, e.owner ≠ m) →
      exec (.callSetTimerActive m a) s =
        .next { s with log := s.log ++ [.noTimer m], result := .unit } ∧
      exec (.callResetTimer m i) s =
        .next { s with log := s.log ++ [.noTimer m], result := .unit } ∧
      exec (.callSetUpdateInterval m i) s =
        .next { s with log := s.log ++ [.noTimer m], result := .unit } ∧
      exec (.callGetUpdateInterval m) s =
        .next { s with
          log := s.log ++ [.noTimer m]
          result := .nat (Config.params.defaultIntervalUs m) })

/-- R152 when no active entry comes due: the clock advances, every active entry accumulates, an inactive
one does not grow, and nothing fires. A device error reported before (R403) becomes a STOP at the end of
the loop iteration, the TICK; that reading of "loop iteration" is log 14. -/
def Obligations.TickWithoutFiring : Prop :=
  ∀ (s : State) (d : Nat),
    (∀ e ∈ s.bus.timers, e.active = true → e.acc + d < e.interval) →
    exec (.callTick d) s =
      .next { s with
        bus := { s.bus with
          clock := s.bus.clock + d
          timers := s.bus.timers.map fun e =>
            if e.active then { e with acc := e.acc + d } else e }
        live := s.live && !s.shutdown
        result := .unit }

/-- R152, R153: the first due entry fires whatever module it is, and its Update event is the tick's first
output. When it is the VGA's and no other entry is due, it fires once however large the tick, its surplus
is carried, the VGA's update runs to completion inside the tick, and every other active entry accumulates.
A device error reported before (R403) becomes a STOP at the end of the loop iteration, the TICK; that
reading of "loop iteration" is log 14. -/
def Obligations.TickRunsTheVgaUpdate : Prop :=
  ∀ (s : State) (d : Nat) (pre post : List Timer) (e : Timer), s.bus.timers = pre ++ e :: post →
    e.active = true → e.interval ≤ e.acc + d →
    (∀ x ∈ pre, x.active = true → x.acc + d < x.interval) →
    (∃ (t : State) (es : List OutEvent), exec (.callTick d) s = .next t ∧
      t.out = s.out ++ .update e.owner :: es) ∧
    (s.isVideo e.owner = true → (∀ x ∈ post, x.active = true → x.acc + d < x.interval) →
      let grown := fun x : Timer => if x.active then { x with acc := x.acc + d } else x
      ∃ (t u : State) (es : List OutEvent), exec (.callTick d) s = .next t ∧
        exec .callVgaUpdate s = .next u ∧ u.out = s.out ++ es ∧
        t = { s with
          bus := { s.bus with
            clock := s.bus.clock + d
            timers := pre.map grown ++ { e with acc := e.acc + d - e.interval } :: post.map grown }
          vga := u.vga
          out := s.out ++ [.update e.owner] ++ es
          live := s.live && !s.shutdown
          result := .unit })

/-- R152, R154: the Update events of a tick name owners of the entries present when it starts, in
registration order, each entry at most once. From below: up to and with the first due entry of a module
other than the VGA (whose update may change later entries), every due entry fires, in that order. That an
entry registered during the tick waits for the next one is the model's reading, log 19. -/
def Obligations.TickFiresInRegistrationOrder : Prop :=
  ∀ (s : State) (d : Nat),
    let due := fun x : Timer => x.active && decide (x.interval ≤ x.acc + d)
    ∃ (t : State) (es : List OutEvent), exec (.callTick d) s = .next t ∧ t.out = s.out ++ es ∧
      (es.filterMap updateOwner).Sublist (s.bus.timers.map Timer.owner) ∧
      ∀ (pre post : List Timer) (e : Timer), s.bus.timers = pre ++ e :: post → due e = true →
        (∀ x ∈ pre, due x = true → s.isVideo x.owner = true) →
        ((pre ++ [e]).filter due).map Timer.owner <+: es.filterMap updateOwner

/-- R21, R24, R25: the clock advances by TICK_US at a TICK and at nothing else; no transaction takes an
owned line from its owner; no transaction changes the module list but for the connected flags, and those
only WIRE changes. -/
def Obligations.WhatOnlyOneTransactionChanges : Prop :=
  ∀ (i : Instr) (s t : State), exec i s = .next t →
    (∀ d, i = .callTick d → t.bus.clock = s.bus.clock + d) ∧
    ((∀ d, i ≠ .callTick d) → t.bus.clock = s.bus.clock) ∧
    (∀ n m, s.pic.owner.get n = some m → t.pic.owner.get n = some m) ∧
    (i ≠ .callWire → t.modules = s.modules) ∧
    t.modules.map (fun m => (m.kind, m.required, m.debug)) =
      s.modules.map (fun m => (m.kind, m.required, m.debug))

/-- R160: every module's connected flag after the pass, and one E_WIRING per module with a missing
type, in registry order. -/
def Obligations.WireRule : Prop :=
  ∀ s : State, ∃ t, exec .callWire s = .next t ∧
    t.modules.length = s.modules.length ∧
    (∀ (k : Nat) (m : Machine.Module), s.modules[k]? = some m →
      ∃ c, t.modules[k]? = some { m with connected := c } ∧
        (c = true ↔ ∀ r ∈ m.required, HasKind s.modules r)) ∧
    t = { s with
      modules := t.modules
      log := s.log ++ s.modules.zipIdx.filterMap fun x =>
        let missing := x.1.required.filter fun r => !s.modules.any fun y => y.kind == r
        if missing = [] then none else some (.wiring x.2 missing)
      result := .unit }

/-! ### Window (20_memory.md, 42_vga_memory_codec.md) -/

/-- R82, R83: the window each MMS value selects, and the 16-bit offset inside it. R251, R261: outside it a
read returns 0xFF and a write is ignored; nothing else changes. -/
def Obligations.WindowResolution : Prop :=
  (∀ (v : Vga) (a : PhysAddr),
    let inside := fun base limit : Nat =>
      if base ≤ a.toNat ∧ a.toNat ≤ limit then
        some (BitVec.ofNat 16 ((a.toNat - base) % 65536)) else none
    (v.gc[6].extractLsb' 2 2 = 0#2 → v.resolve a = inside 0xA0000 0xBFFFF) ∧
    (v.gc[6].extractLsb' 2 2 = 1#2 → v.resolve a = inside 0xA0000 0xAFFFF) ∧
    (v.gc[6].extractLsb' 2 2 = 2#2 → v.resolve a = inside 0xB0000 0xB7FFF) ∧
    (v.gc[6].extractLsb' 2 2 = 3#2 → v.resolve a = inside 0xB8000 0xBFFFF)) ∧
  (∀ (s : State) (a : PhysAddr) (d : Byte), s.vga.resolve a = none →
    exec (.mrd a) s = .next { s with result := .byte 0xFF } ∧
    exec (.mwr a d) s = .next { s with result := .unit })

/-- R252, R253, R254: a read inside the window loads all four latches from one index, then returns one
latch, or the colour compare: bit j reads 1 exactly when every plane that takes part matches. -/
def Obligations.WindowRead : Prop :=
  ∀ (s : State) (a : PhysAddr) (off : BitVec 16), s.vga.resolve a = some off →
    ∃ L b, exec (.mrd a) s =
        .next { s with vga := { s.vga with latch := L }, result := .byte b } ∧
      (s.vga.seq[4].getLsbD 3 = true →
        (∀ q : Fin 4, L.get q = s.planeByte q (off &&& 0xFFFC)) ∧
        b = L.get (Fin.ofNat 4 off.toNat)) ∧
      (s.vga.seq[4].getLsbD 3 = false →
        (∀ q : Fin 4, L.get q = s.planeByte q off) ∧
        (s.vga.gc[5].getLsbD 3 = false → b = L.get (Fin.ofNat 4 s.vga.gc[4].toNat)) ∧
        (s.vga.gc[5].getLsbD 3 = true → ∀ j < 8,
          (b.getLsbD j = true ↔ ∀ q : Fin 4, s.vga.gc[7].getLsbD q = true →
            (L.get q).getLsbD j = s.vga.gc[2].getLsbD q)))

/-- R260, R266, R267, R268, R269: every bit of the byte each write mode makes for a plane. -/
def Obligations.WriteModesBitByBit : Prop :=
  ∀ (v : Vga) (d : Byte) (q : Fin 4) (j : Nat), j < 8 →
    let l := (v.latch.get q).getLsbD j
    let rotated := d.getLsbD ((j + v.gc[3].toNat % 8) % 8)
    let fn := v.gc[3].extractLsb' 3 2
    let bm := v.gc[8].getLsbD j
    let sr := v.gc[0].getLsbD q
    (v.gc[5].extractLsb' 0 2 = 0#2 → (writeMode v d q).getLsbD j =
      if bm then bitOp fn (if v.gc[1].getLsbD q then sr else rotated) l else l) ∧
    (v.gc[5].extractLsb' 0 2 = 1#2 → (writeMode v d q).getLsbD j = l) ∧
    (v.gc[5].extractLsb' 0 2 = 2#2 → (writeMode v d q).getLsbD j =
      if bm then bitOp fn (d.getLsbD q) l else l) ∧
    (v.gc[5].extractLsb' 0 2 = 3#2 → (writeMode v d q).getLsbD j =
      if rotated && bm then bitOp fn sr l else l)

/-- R262, R264: a planar write stores its write mode's byte to the enabled planes at the offset and to no
other byte, and touches nothing but planes, tiles and outputs. -/
def Obligations.PlanarStore : Prop :=
  ∀ (s : State) (a : PhysAddr) (d : Byte) (off : BitVec 16), s.vga.resolve a = some off →
    s.vga.seq[4].getLsbD 3 = false →
    ∃ t, exec (.mwr a d) s = .next t ∧
      (∀ (p : Fin 4) (i : BitVec 16), t.planeByte p i =
        if s.vga.seq[2].getLsbD p = true ∧ i = off then writeMode s.vga d p
        else s.planeByte p i) ∧
      t = { s with
        vga := { s.vga with planes := t.vga.planes, clean := t.vga.clean }
        out := t.out
        result := .unit }

/-- R263: the chain-four store under each reading of CHAIN4_WRITE; only the addressed plane's byte at
`off & 0xFFFC` can change. -/
def Obligations.ChainFourStore : Prop :=
  ∀ (s : State) (a : PhysAddr) (d : Byte) (off : BitVec 16), s.vga.resolve a = some off →
    s.vga.seq[4].getLsbD 3 = true →
    ∃ t, exec (.mwr a d) s = .next t ∧
      (∀ (p : Fin 4) (i : BitVec 16), t.planeByte p i =
        if p.val = off.toNat % 4 ∧ i = off &&& 0xFFFC then
          (match Config.params.chain4Write with
            | .raw => d
            | .pipeline =>
              if s.vga.seq[2].getLsbD p then writeMode s.vga d p else s.planeByte p i)
        else s.planeByte p i) ∧
      t = { s with
        vga := { s.vga with planes := t.vga.planes, clean := t.vga.clean }
        out := t.out
        result := .unit }

/-- R264, R270, R271, R272: a write that stores nothing changes nothing; a stored write marks every tile in
text mode or with line offset 0, otherwise exactly the tiles the byte has a pixel in. -/
def Obligations.WriteMarksItsTiles : Prop :=
  ∀ (s : State) (a : PhysAddr) (d : Byte) (off : BitVec 16), s.vga.resolve a = some off →
    (¬WriteStores s.vga off → exec (.mwr a d) s = .next { s with result := .unit }) ∧
    (WriteStores s.vga off → ∃ t, exec (.mwr a d) s = .next t ∧ ∀ tile, InGrid tile →
      ((s.vga.graphicsMode = false ∨ s.vga.lineOffset = 0) → t.vga.dirty tile = true) ∧
      (s.vga.graphicsMode = true → s.vga.lineOffset ≠ 0 →
        (t.vga.dirty tile = true ↔ s.vga.dirty tile = true ∨ Touches s.vga off tile)))

/-- R274: a stored write inside the active character map notifies the font cache with the byte of plane 2
there after the store, once; any other sends nothing. -/
def Obligations.FontNotification : Prop :=
  ∀ (s : State) (a : PhysAddr) (d : Byte) (off : BitVec 16), s.vga.resolve a = some off →
    WriteStores s.vga off →
    let mapB := (s.vga.seq[3].getLsbD 4).toNat * 4 + s.vga.seq[3].toNat % 4
    let base := [0x0000, 0x4000, 0x8000, 0xC000, 0x2000, 0x6000, 0xA000, 0xE000].getD mapB 0
    let k := if s.vga.chain4 = true then off &&& 0xFFFC else off
    ∃ t, exec (.mwr a d) s = .next t ∧ t.out = s.out ++
      if base ≤ k.toNat ∧ k.toNat < base + 0x2000 then
        [.fontWrite (k.toNat - base) (t.planeByte 2 k)] else []

/-- R40, R96 (derived): no transaction but a window write changes a byte of video memory, and none but a
window read and RESET changes a latch. -/
def Obligations.MemoryAndLatchesHaveOneWriter : Prop :=
  ∀ (i : Instr) (s t : State), exec i s = .next t →
    ((∀ a d, i ≠ .mwr a d) → ∀ p j, t.planeByte p j = s.planeByte p j) ∧
    ((∀ a, i ≠ .mrd a) → i ≠ .callReset → t.vga.latch = s.vga.latch)

/-! ### Display (43_vga_display.md) -/

/-- R291: the screen size, from Crtc[0x01] and the ten bits of the vertical display end. -/
def Obligations.ScreenSizeRule : Prop :=
  ∀ s : State, exec .callScreenSize s = .next { s with
    result :=
      if Config.params.sig320x240 s.vga.crtc = true then .size 320 240
      else
        .size ((s.vga.crtc[0x01].toNat + 1) * 8)
          (s.vga.crtc[0x12].toNat + (s.vga.crtc[0x07].getLsbD 1).toNat * 256 +
            (s.vga.crtc[0x07].getLsbD 6).toNat * 512 + 1) }

/-- R290: an update writes no register, no latch and no byte of memory; it changes the dirty flags, the
announced size and the outputs, which it only extends. -/
def Obligations.UpdateWritesNoRegister : Prop :=
  ∀ s : State, ∃ (t : State) (es : List OutEvent), exec .callVgaUpdate s = .next t ∧
    t = { s with
      vga := { s.vga with clean := t.vga.clean, lastSize := t.vga.lastSize }
      out := s.out ++ es
      result := .unit }

/-- R296, R298, R300: a graphics update announces a changed size first and then counts every tile as
dirty; it redraws exactly the dirty tiles on the screen, in row-major order, each with RENDER's pixels,
clears exactly those, and changes nothing else. That RENDER is asked of the adapter as it stands at each
redraw is the model's reading of `RENDER(state, c, r)` (log 22). -/
def Obligations.GraphicsUpdateRedrawsDirtyTiles : Prop :=
  ∀ s : State, s.vga.graphicsMode = true →
    let size := s.vga.screenSize Config.params
    let tiles := (gridTiles Config.params).filter fun tile =>
      (announced s.vga).dirty tile && decide (tile.col * Config.params.xTileSize < size.1) &&
        decide (tile.row * Config.params.yTileSize < size.2)
    ∃ t, exec .callVgaUpdate s = .next t ∧
      t = { s with
        vga := { announced s.vga with clean := t.vga.clean }
        out := s.out ++ resizeEvents s.vga ++ redrawEvents (announced s.vga) tiles
        result := .unit } ∧
      ∀ tile, t.vga.dirty tile = true ↔ (announced s.vga).dirty tile = true ∧ tile ∉ tiles

/-- R292, R293, R296, R297, R299: in text mode with MSL = 0 an update changes nothing; otherwise it
announces a changed size first, sends one TextRedraw with the geometry, the cursor and RENDER's pixels,
clears exactly the tiles on the screen, and changes nothing else. That RENDER is asked of the adapter with
the size announced is the model's reading of `RENDER(state, TEXT)` (log 22). -/
def Obligations.TextUpdateRedrawsTheScreen : Prop :=
  ∀ s : State, s.vga.graphicsMode = false →
    let size := s.vga.screenSize Config.params
    let start := s.vga.crtc[0x0C].toNat * 256 + s.vga.crtc[0x0D].toNat
    let cursor := s.vga.crtc[0x0E].toNat * 256 + s.vga.crtc[0x0F].toNat
    let cols := s.vga.crtc[0x01].toNat + 1
    (s.vga.crtc[0x09].extractLsb' 0 5 = 0 →
      exec .callVgaUpdate s = .next { s with result := .unit }) ∧
    (s.vga.crtc[0x09].extractLsb' 0 5 ≠ 0 →
      ∃ t, exec .callVgaUpdate s = .next t ∧
        t = { s with
          vga := { announced s.vga with clean := t.vga.clean }
          out := s.out ++ resizeEvents s.vga ++
            [.textRedraw (BitVec.ofNat 16 start)
              (if cursor < start then none
                else some ((cursor - start) % cols, (cursor - start) / cols))
              cols (size.2 / (s.vga.crtc[0x09].toNat % 32 + 1))
              (Config.params.render (announced s.vga) .text)]
          result := .unit } ∧
        ∀ tile, InGrid tile →
          (t.vga.dirty tile = true ↔
            (announced s.vga).dirty tile = true ∧
              ¬(tile.col * Config.params.xTileSize < size.1 ∧
                tile.row * Config.params.yTileSize < size.2)))

/-- R272, R300: the tile dirty/clean cycle. In graphics mode, between two updates, a stored write makes the
second update redraw exactly the on-screen tiles the byte has a pixel in, with RENDER's pixels of the
adapter as the write left it (log 22); after it every on-screen tile is clean. -/
def Obligations.TileDirtyCleanCycle : Prop :=
  ∀ (s : State) (a : PhysAddr) (d : Byte) (off : BitVec 16),
    s.vga.resolve a = some off → WriteStores s.vga off →
    s.vga.graphicsMode = true → s.vga.lineOffset ≠ 0 →
    let size := s.vga.screenSize Config.params
    ∃ (u w t : State) (tiles : List Tile) (es : List OutEvent),
      exec .callVgaUpdate s = .next u ∧ exec (.mwr a d) u = .next w ∧
      exec .callVgaUpdate w = .next t ∧
      w.out = u.out ++ es ∧ (∀ e ∈ es, ∃ k b, e = .fontWrite k b) ∧
      t.out = w.out ++ redrawEvents w.vga tiles ∧ tiles.Nodup ∧
      (∀ tile, tile ∈ tiles ↔ InGrid tile ∧ Touches s.vga off tile ∧
        tile.col * Config.params.xTileSize < size.1 ∧
        tile.row * Config.params.yTileSize < size.2) ∧
      ∀ tile, InGrid tile → tile.col * Config.params.xTileSize < size.1 →
        tile.row * Config.params.yTileSize < size.2 → t.vga.dirty tile = false

/-! ### PIC (44_pic.md) -/

/-- R321: the line already owned, the first free line of IRQ_POOL, or NONE. -/
def Obligations.RequestIrqRule : Prop :=
  ∀ (s : State) (m : ModuleRef),
    (∀ n : Line, s.pic.owner.get n = some m → (∀ k < n, s.pic.owner.get k ≠ some m) →
      exec (.callRequestIrq m) s = .next { s with result := .line (some n) }) ∧
    ((∀ n : Line, s.pic.owner.get n ≠ some m) →
      exec (.callRequestIrq m) s =
        match Config.params.irqPool.filter fun n => s.pic.owner.get n = none with
        | n :: _ =>
          .next { s with
            pic := { s.pic with owner := s.pic.owner.set n (some m) }
            result := .line (some n) }
        | [] => .next { s with log := s.log ++ [.irqExhausted m], result := .line none })

/-- R322, R323: an owned line of [1,16] is raised or lowered, idempotently; any other number is logged
and ignored. Line `n + 1` is `Line` value `n`. -/
def Obligations.SetAndClearIrq : Prop :=
  ∀ (s : State) (b : Byte),
    (∀ n : Line, b.toNat = n.val + 1 → s.pic.owner.get n ≠ none →
      exec (.callSetIrq b) s =
        .next { s with
          pic := { s.pic with raised := s.pic.raised.set n true }, result := .unit } ∧
      exec (.callClearIrq b) s =
        .next { s with
          pic := { s.pic with raised := s.pic.raised.set n false }, result := .unit }) ∧
    ((b.toNat < 1 ∨ 16 < b.toNat ∨
        ∃ n : Line, b.toNat = n.val + 1 ∧ s.pic.owner.get n = none) →
      exec (.callSetIrq b) s =
        .next { s with log := s.log ++ [.irqInvalid b], result := .unit } ∧
      exec (.callClearIrq b) s =
        .next { s with log := s.log ++ [.irqInvalid b], result := .unit })

/-- R324: with an owned line raised, acknowledge answers VECTOR of the lowest raised line, clears it if it
is an EDGE line and keeps it if it is a LEVEL line; with none it raises the fault ACK_NONE. -/
def Obligations.AcknowledgeServesLowestLine : Prop :=
  (∀ (s : State) (n k : Line),
    s.pic.raised.get k = true → s.pic.owner.get k ≠ none →
    s.pic.raised.get n = true → (∀ j < n, s.pic.raised.get j = false) →
    exec .callInta s = .next { s with
      pic :=
        match Config.params.trigger n with
        | .edge => { s.pic with raised := s.pic.raised.set n false }
        | .level => s.pic
      result := .byte (Config.params.vector n) }) ∧
  (∀ s : State, (∀ n : Line, s.pic.raised.get n = true → s.pic.owner.get n = none) →
    exec .callInta s = .next { s with faulted := some .ackNone, result := .unit })

/-- R327: N distinct modules get the first N lines of IRQ_POOL, which are distinct; one more request on an
exhausted pool gets NONE. -/
def Obligations.IrqUniqueness : Prop :=
  Config.params.irqPool.Nodup ∧
  ∀ (s : State) (ms : List ModuleRef), (∀ n : Line, s.pic.owner.get n = none) → ms.Nodup →
    ms.length ≤ Config.params.irqPool.length →
    execResults (ms.map .callRequestIrq) s =
      (Config.params.irqPool.take ms.length).map (fun n => .line (some n)) ∧
    ∀ m, m ∉ ms → ms.length = Config.params.irqPool.length →
      execResults ((ms ++ [m]).map .callRequestIrq) s =
        Config.params.irqPool.map (fun n => .line (some n)) ++ [.line none]

/-! ### Lifecycle (70_reset_and_hazards.md) -/

/-- R443, R447: after a RESET of a machine with a video module every VGA register has its reset value,
video memory is kept, and each of the 22 ports is bound. That the video module is reset wherever it stands
in the registry, even after an earlier module has answered false, is the model's reading of R442 (log 18,
DEDUCED). -/
def Obligations.ResetRestoresTheVga : Prop :=
  ∀ s : State, HasKind s.modules .video →
    ∃ t, exec .callReset s = .next t ∧
      t.vga.misc = 0x01 ∧ t.vga.featureCtl = 0 ∧ t.vga.subsysEnable = 0 ∧
      t.vga.seqIndex = 0 ∧ (∀ i (h : i < 5), t.vga.seq[i] = 0) ∧
      t.vga.crtcIndex = 0 ∧ (∀ i (h : i < 25), t.vga.crtc[i] = 0) ∧
      t.vga.gcIndex = 0 ∧ (∀ i (h : i < 9), t.vga.gc[i] = 0) ∧
      (∀ i (h : i < 4), t.vga.latch[i] = 0) ∧
      t.vga.acFlip = .address ∧ t.vga.acIndex = 0 ∧ t.vga.acPas = 0 ∧
      (∀ i (h : i < 21), t.vga.ac[i] = 0) ∧
      t.vga.pelMask = 0xFF ∧ t.vga.dacWAddr = 0 ∧ t.vga.dacWPhase = 0 ∧
      t.vga.dacRAddr = 0 ∧ t.vga.dacRPhase = 0 ∧ t.vga.dacState = .write ∧
      (∀ a c, paletteRead t.vga a c = 0) ∧
      (∀ tile, t.vga.dirty tile = true) ∧ t.vga.lastSize = none ∧
      (∀ p i, t.planeByte p i = s.planeByte p i) ∧
      (∀ p ∈ vgaPorts, t.bus.portOwner p ≠ none)

/-- R444, R446: RESET lowers every line when the registry holds a PIC, and keeps owners, clock, modules,
memory, log and outputs; the other modules' calls (draws) can only add to owners and log. A bind that
conflicts, whichever module's reset asks for it, makes RESET answer false (R442, 90_conflicts.md C8). That
the PIC is reset wherever it stands in the registry, even after an earlier module has answered false, is
the model's reading of R442 (log 18, DEDUCED). -/
def Obligations.ResetKeepsWhatItMust : Prop :=
  ∀ s : State, ∃ (t : State) (es : List LogEvent), exec .callReset s = .next t ∧
    (HasKind s.modules .pic → ∀ n : Line, t.pic.raised.get n = false) ∧
    (∀ n m, s.pic.owner.get n = some m → t.pic.owner.get n = some m) ∧
    t.bus.clock = s.bus.clock ∧ t.modules = s.modules ∧ t.vga.planes = s.vga.planes ∧
    t.out = s.out ∧ t.log = s.log ++ es ∧ t.faulted = s.faulted ∧ t.live = s.live ∧
    (∃ b, t.result = .bool b) ∧ (∀ p o m, .bindConflict p o m ∈ es → t.result = .bool false)

/-- R442, R443, R444, R445, R446 on the block's own three modules: the whole state RESET leaves, with the
old port map torn down and the VGA's timer requested again: a new last entry where the VGA has none (the
first RESET), else its entry renewed in place with acc 0 and every other entry kept (a warm RESET). -/
def Obligations.ResetOfTheBlockAlone : Prop :=
  ∀ (s : State) (mb pic video : Machine.Module), s.modules = [mb, pic, video] →
    mb.kind = .motherboard → pic.kind = .pic → video.kind = .video →
    let fresh := Timer.mk 2 Config.params.vgaUpdateIntervalUs true 0
    let after := fun timers : List Timer =>
      { s with
        bus := { s.bus with
          portMap := vgaPorts.map fun p => (p.toNat, 2)
          timers := timers }
        pic := { s.pic with raised := Vector.replicate 16 false }
        vga := vgaResetValue s.vga.planes
        result := .bool true }
    ((∀ e ∈ s.bus.timers, e.owner ≠ 2) →
      exec .callReset s = .next (after (s.bus.timers ++ [fresh]))) ∧
    (∀ pre e post, s.bus.timers = pre ++ e :: post → e.owner = 2 → (∀ x ∈ pre, x.owner ≠ 2) →
      exec .callReset s = .next (after (pre ++ fresh :: post)))

/-- R450, R451: the boot sequence, as the model reads it outside the step (log 25, DEDUCED). The failed
steps are recorded as E_CONFIG in R450's order, a step's failure does not stop the steps after it, and the
overall result is true exactly when no step failed; it gates the main loop. A step the plan makes fail, a
creation order R450 forbids, and a bind that conflicts in any module's reset (90_conflicts.md C8) are such
failures. The interval in force after a boot of the block alone is the one the VGA's reset requests. -/
def Obligations.BootRecordsItsFailedSteps : Prop :=
  ∀ (plan : BootPlan) (s : State),
    let r := boot Config.params plan s
    let kinds := plan.modules.map fun m => m.kind
    ∃ es : List LogEvent, r.1.log = s.log ++ es ∧ r.1.live = (s.live && r.2) ∧
      r.1.modules.map (fun m => m.kind) = kinds ∧
      (es.filterMap configStep).Sublist setupOrder ∧
      (r.2 = true ↔ es.filterMap configStep = []) ∧
      (∀ x ∈ plan.failures, x ∈ es.filterMap configStep) ∧
      (creationOrderOk kinds = false → .createModules ∈ es.filterMap configStep) ∧
      ((∃ p o m, .bindConflict p o m ∈ es) → .resetModules ∈ es.filterMap configStep) ∧
      (kinds = [.motherboard, .pic, .video] → s.bus.timers = [] →
        r.1.bus.timers = [Timer.mk 2 Config.params.vgaUpdateIntervalUs true 0])

/-- R447: the values State.reset gives the registers, flags and lists of the table. -/
def Obligations.ResetStateValues : Prop :=
  State.reset.vga = vgaResetValue [] ∧
  State.reset.vga.misc = 0x01 ∧ State.reset.vga.pelMask = 0xFF ∧
  State.reset.vga.acFlip = .address ∧ State.reset.vga.dacState = .write ∧
  State.reset.bus.clock = 0 ∧ State.reset.faulted = none ∧
  State.reset.log = [] ∧ State.reset.out = [] ∧
  State.reset.pic.intrPending = false ∧
  (∀ p ∈ vgaPorts, (State.reset.bus.portOwner p).map State.reset.isVideo = some true)

/-- R455: STOP keeps the state and ends the run: whatever is presented next, no transaction is
accepted. -/
def Obligations.StopEndsTheRun : Prop :=
  ∀ s : State, ∃ t, exec .callStop s = .next t ∧
    t = { s with live := false, result := .unit } ∧
    (s.faulted = none → ∀ is, step { t with input := is } = .refused .stopped)

/-- 10_state.md R48, R402: a faulted state takes no step, no transaction clears a fault, RESET among them,
and only an acknowledge with no owned line raised makes one. -/
def Obligations.FaultsAreForGood : Prop :=
  State.powerOn.faulted = none ∧
  (∀ (s : State) (f : Fault), s.faulted = some f → step s = .fault f) ∧
  (∀ (i : Instr) (s t : State), exec i s = .next t →
    (s.faulted ≠ none → t.faulted ≠ none) ∧
    (s.faulted = none → t.faulted ≠ none →
      i = .callInta ∧ t.faulted = some .ackNone ∧
        ∀ n : Line, s.pic.raised.get n = true → s.pic.owner.get n = none))

/-- 10_state.md R47: `Log` and `Out` are append-only, under every transaction. -/
def Obligations.LogAndOutAreAppendOnly : Prop :=
  ∀ (i : Instr) (s t : State), exec i s = .next t → s.log <+: t.log ∧ s.out <+: t.out

/-! ### Encoding (30_encoding.md) and the step -/

/-- 00_scope.md R11: an accepting state whose next transaction decodes runs that transaction, which is
taken from the stream; the stream has no program counter and nothing else moves. -/
def Obligations.StepRunsTheDecodedTransaction : Prop :=
  ∀ (s : State) (x : Transaction) (rest : List Transaction) (i : Instr),
    s.Accepts → s.input = x :: rest → decode x = .ok i →
    step s = exec i { s with input := rest }

/-- R120: exactly these words are refused, and a step on one of them is a refusal. -/
def Obligations.RefusedWords : Prop :=
  ∀ x : Transaction,
    let w := x.word.toNat
    let kind := w / 2 ^ 28
    let op := w / 2 ^ 16 % 256
    let arg := w / 2 ^ 8 % 256
    let addr := w / 2 ^ 8 % 2 ^ 20
    ((∃ e, decode x = .error e) ↔
      kind ∉ [0x1, 0x2, 0x3, 0x4, 0x8] ∨
      (kind ∈ [0x1, 0x2, 0x8] ∧ w / 2 ^ 24 % 16 ≠ 0) ∨
      (kind ∈ [0x1, 0x3, 0x8] ∧ w % 256 ≠ 0) ∨
      (kind = 0x8 ∧ op ∉ [0x01, 0x02, 0x03, 0x04, 0x05, 0x06, 0x07, 0x08, 0x09, 0x0A,
        0x10, 0x11, 0x12, 0x13, 0x20, 0x21]) ∨
      (kind = 0x8 ∧ arg ≠ 0 ∧ op ≠ 0x11 ∧ op ≠ 0x12) ∨
      (kind ∈ [0x3, 0x4] ∧ ¬(0xA0000 ≤ addr ∧ addr ≤ 0xBFFFF))) ∧
    (∀ (s : State) (rest : List Transaction) (e : DecodeError), s.Accepts →
      s.input = x :: rest → decode x = .error e → step s = .refused (.reserved e))

/-- Encoding then decoding gives back every well-formed transaction, with every operand. -/
def Obligations.DecodeOfEncode : Prop :=
  ∀ i : Instr, i.wellFormed = true → decode (encode i) = .ok i

/-- What the decoder accepts is well formed, and encodes to the same word: no bit of an accepted word is
dropped. -/
def Obligations.EncodeOfDecode : Prop :=
  ∀ (x : Transaction) (i : Instr), decode x = .ok i →
    i.wellFormed = true ∧ (encode i).word = x.word

/-- R110, R125: words of the spec's own tables decode to the transactions it names. -/
def Obligations.SpecWordsDecode : Prop :=
  [0x1003DA00, 0x2003C8FF, 0x3A005200, 0x4A0052FF, 0x80110300, 0x80130000, 0x2003C402,
    0x10030000, 0x80200000].map (decodeTableWord 32) =
  [some .in3DA, some (.out3C8 0xFF), some (.mrd 0xA0052), some (.mwr 0xA0052 0xFF),
    some (.callSetIrq 3), some .callInta, some (.out3C4 0x02), some (.inPort 0x300),
    some .callVgaUpdate] ∧
  [0x5003C400, 0x1103C400, 0x1003C401, 0x3A000001, 0x80300000, 0x80100100, 0x40000012,
    0x3C000000].map (decodeTableWord 32) = List.replicate 8 none

/-! ### Invariants -/

/-- The reset state and the power-on state are legal. -/
def Obligations.ResetIsLegal : Prop := State.reset.Inv ∧ State.powerOn.Inv

/-- Every step keeps the legal states: memory, port map and tiles keep their canonical form, at most one
module per port (R22), intervals positive and one timer per module (R23), only owned lines raised and one
line per module (R25, R321, R322). -/
def Obligations.StepKeepsLegalStates : Prop :=
  ∀ s t : State, s.Inv → step s = .next t → t.Inv
end

