-- ==== Sys2Proof/Laws/State.lean ====
section
/-! SUPPORT. One lemma per field per update of State, true by rfl, so that no proof unfolds an update. -/

namespace Sys2Proof.Machine

/-! ### answer -/

@[simp] theorem State.answer_modules (s : State) (r : Result) : (s.answer r).modules = s.modules := rfl
@[simp] theorem State.answer_bus (s : State) (r : Result) : (s.answer r).bus = s.bus := rfl
@[simp] theorem State.answer_pic (s : State) (r : Result) : (s.answer r).pic = s.pic := rfl
@[simp] theorem State.answer_vga (s : State) (r : Result) : (s.answer r).vga = s.vga := rfl
@[simp] theorem State.answer_log (s : State) (r : Result) : (s.answer r).log = s.log := rfl
@[simp] theorem State.answer_out (s : State) (r : Result) : (s.answer r).out = s.out := rfl
@[simp] theorem State.answer_faulted (s : State) (r : Result) : (s.answer r).faulted = s.faulted := rfl
@[simp] theorem State.answer_live (s : State) (r : Result) : (s.answer r).live = s.live := rfl
@[simp] theorem State.answer_shutdown (s : State) (r : Result) : (s.answer r).shutdown = s.shutdown := rfl
@[simp] theorem State.answer_input (s : State) (r : Result) : (s.answer r).input = s.input := rfl
@[simp] theorem State.answer_result (s : State) (r : Result) : (s.answer r).result = r := rfl
@[simp] theorem State.answer_draws (s : State) (r : Result) : (s.answer r).draws = s.draws := rfl

/-! ### record -/

@[simp] theorem State.record_modules (s : State) (e : LogEvent) : (s.record e).modules = s.modules := rfl
@[simp] theorem State.record_bus (s : State) (e : LogEvent) : (s.record e).bus = s.bus := rfl
@[simp] theorem State.record_pic (s : State) (e : LogEvent) : (s.record e).pic = s.pic := rfl
@[simp] theorem State.record_vga (s : State) (e : LogEvent) : (s.record e).vga = s.vga := rfl
@[simp] theorem State.record_log (s : State) (e : LogEvent) : (s.record e).log = s.log ++ [e] := rfl
@[simp] theorem State.record_out (s : State) (e : LogEvent) : (s.record e).out = s.out := rfl
@[simp] theorem State.record_faulted (s : State) (e : LogEvent) : (s.record e).faulted = s.faulted := rfl
@[simp] theorem State.record_live (s : State) (e : LogEvent) : (s.record e).live = s.live := rfl
@[simp] theorem State.record_shutdown (s : State) (e : LogEvent) : (s.record e).shutdown = s.shutdown := rfl
@[simp] theorem State.record_input (s : State) (e : LogEvent) : (s.record e).input = s.input := rfl
@[simp] theorem State.record_result (s : State) (e : LogEvent) : (s.record e).result = s.result := rfl
@[simp] theorem State.record_draws (s : State) (e : LogEvent) : (s.record e).draws = s.draws := rfl

/-! ### emit -/

@[simp] theorem State.emit_modules (s : State) (e : OutEvent) : (s.emit e).modules = s.modules := rfl
@[simp] theorem State.emit_bus (s : State) (e : OutEvent) : (s.emit e).bus = s.bus := rfl
@[simp] theorem State.emit_pic (s : State) (e : OutEvent) : (s.emit e).pic = s.pic := rfl
@[simp] theorem State.emit_vga (s : State) (e : OutEvent) : (s.emit e).vga = s.vga := rfl
@[simp] theorem State.emit_log (s : State) (e : OutEvent) : (s.emit e).log = s.log := rfl
@[simp] theorem State.emit_out (s : State) (e : OutEvent) : (s.emit e).out = s.out ++ [e] := rfl
@[simp] theorem State.emit_faulted (s : State) (e : OutEvent) : (s.emit e).faulted = s.faulted := rfl
@[simp] theorem State.emit_live (s : State) (e : OutEvent) : (s.emit e).live = s.live := rfl
@[simp] theorem State.emit_shutdown (s : State) (e : OutEvent) : (s.emit e).shutdown = s.shutdown := rfl
@[simp] theorem State.emit_input (s : State) (e : OutEvent) : (s.emit e).input = s.input := rfl
@[simp] theorem State.emit_result (s : State) (e : OutEvent) : (s.emit e).result = s.result := rfl
@[simp] theorem State.emit_draws (s : State) (e : OutEvent) : (s.emit e).draws = s.draws := rfl

/-! ### countDraw -/

@[simp] theorem State.countDraw_modules (s : State) : (s.countDraw).modules = s.modules := rfl
@[simp] theorem State.countDraw_bus (s : State) : (s.countDraw).bus = s.bus := rfl
@[simp] theorem State.countDraw_pic (s : State) : (s.countDraw).pic = s.pic := rfl
@[simp] theorem State.countDraw_vga (s : State) : (s.countDraw).vga = s.vga := rfl
@[simp] theorem State.countDraw_log (s : State) : (s.countDraw).log = s.log := rfl
@[simp] theorem State.countDraw_out (s : State) : (s.countDraw).out = s.out := rfl
@[simp] theorem State.countDraw_faulted (s : State) : (s.countDraw).faulted = s.faulted := rfl
@[simp] theorem State.countDraw_live (s : State) : (s.countDraw).live = s.live := rfl
@[simp] theorem State.countDraw_shutdown (s : State) : (s.countDraw).shutdown = s.shutdown := rfl
@[simp] theorem State.countDraw_input (s : State) : (s.countDraw).input = s.input := rfl
@[simp] theorem State.countDraw_result (s : State) : (s.countDraw).result = s.result := rfl
@[simp] theorem State.countDraw_draws (s : State) : (s.countDraw).draws = s.draws + 1 := rfl

/-! ### setVga -/

@[simp] theorem State.setVga_modules (s : State) (v : Vga) : (s.setVga v).modules = s.modules := rfl
@[simp] theorem State.setVga_bus (s : State) (v : Vga) : (s.setVga v).bus = s.bus := rfl
@[simp] theorem State.setVga_pic (s : State) (v : Vga) : (s.setVga v).pic = s.pic := rfl
@[simp] theorem State.setVga_vga (s : State) (v : Vga) : (s.setVga v).vga = v := rfl
@[simp] theorem State.setVga_log (s : State) (v : Vga) : (s.setVga v).log = s.log := rfl
@[simp] theorem State.setVga_out (s : State) (v : Vga) : (s.setVga v).out = s.out := rfl
@[simp] theorem State.setVga_faulted (s : State) (v : Vga) : (s.setVga v).faulted = s.faulted := rfl
@[simp] theorem State.setVga_live (s : State) (v : Vga) : (s.setVga v).live = s.live := rfl
@[simp] theorem State.setVga_shutdown (s : State) (v : Vga) : (s.setVga v).shutdown = s.shutdown := rfl
@[simp] theorem State.setVga_input (s : State) (v : Vga) : (s.setVga v).input = s.input := rfl
@[simp] theorem State.setVga_result (s : State) (v : Vga) : (s.setVga v).result = s.result := rfl
@[simp] theorem State.setVga_draws (s : State) (v : Vga) : (s.setVga v).draws = s.draws := rfl

/-! ### setPic -/

@[simp] theorem State.setPic_modules (s : State) (p : Pic) : (s.setPic p).modules = s.modules := rfl
@[simp] theorem State.setPic_bus (s : State) (p : Pic) : (s.setPic p).bus = s.bus := rfl
@[simp] theorem State.setPic_pic (s : State) (p : Pic) : (s.setPic p).pic = p := rfl
@[simp] theorem State.setPic_vga (s : State) (p : Pic) : (s.setPic p).vga = s.vga := rfl
@[simp] theorem State.setPic_log (s : State) (p : Pic) : (s.setPic p).log = s.log := rfl
@[simp] theorem State.setPic_out (s : State) (p : Pic) : (s.setPic p).out = s.out := rfl
@[simp] theorem State.setPic_faulted (s : State) (p : Pic) : (s.setPic p).faulted = s.faulted := rfl
@[simp] theorem State.setPic_live (s : State) (p : Pic) : (s.setPic p).live = s.live := rfl
@[simp] theorem State.setPic_shutdown (s : State) (p : Pic) : (s.setPic p).shutdown = s.shutdown := rfl
@[simp] theorem State.setPic_input (s : State) (p : Pic) : (s.setPic p).input = s.input := rfl
@[simp] theorem State.setPic_result (s : State) (p : Pic) : (s.setPic p).result = s.result := rfl
@[simp] theorem State.setPic_draws (s : State) (p : Pic) : (s.setPic p).draws = s.draws := rfl

/-! ### setBus -/

@[simp] theorem State.setBus_modules (s : State) (b : Bus) : (s.setBus b).modules = s.modules := rfl
@[simp] theorem State.setBus_bus (s : State) (b : Bus) : (s.setBus b).bus = b := rfl
@[simp] theorem State.setBus_pic (s : State) (b : Bus) : (s.setBus b).pic = s.pic := rfl
@[simp] theorem State.setBus_vga (s : State) (b : Bus) : (s.setBus b).vga = s.vga := rfl
@[simp] theorem State.setBus_log (s : State) (b : Bus) : (s.setBus b).log = s.log := rfl
@[simp] theorem State.setBus_out (s : State) (b : Bus) : (s.setBus b).out = s.out := rfl
@[simp] theorem State.setBus_faulted (s : State) (b : Bus) : (s.setBus b).faulted = s.faulted := rfl
@[simp] theorem State.setBus_live (s : State) (b : Bus) : (s.setBus b).live = s.live := rfl
@[simp] theorem State.setBus_shutdown (s : State) (b : Bus) : (s.setBus b).shutdown = s.shutdown := rfl
@[simp] theorem State.setBus_input (s : State) (b : Bus) : (s.setBus b).input = s.input := rfl
@[simp] theorem State.setBus_result (s : State) (b : Bus) : (s.setBus b).result = s.result := rfl
@[simp] theorem State.setBus_draws (s : State) (b : Bus) : (s.setBus b).draws = s.draws := rfl

/-! ### setModules -/

@[simp] theorem State.setModules_modules (s : State) (ms : List Module) : (s.setModules ms).modules = ms := rfl
@[simp] theorem State.setModules_bus (s : State) (ms : List Module) : (s.setModules ms).bus = s.bus := rfl
@[simp] theorem State.setModules_pic (s : State) (ms : List Module) : (s.setModules ms).pic = s.pic := rfl
@[simp] theorem State.setModules_vga (s : State) (ms : List Module) : (s.setModules ms).vga = s.vga := rfl
@[simp] theorem State.setModules_log (s : State) (ms : List Module) : (s.setModules ms).log = s.log := rfl
@[simp] theorem State.setModules_out (s : State) (ms : List Module) : (s.setModules ms).out = s.out := rfl
@[simp] theorem State.setModules_faulted (s : State) (ms : List Module) : (s.setModules ms).faulted = s.faulted := rfl
@[simp] theorem State.setModules_live (s : State) (ms : List Module) : (s.setModules ms).live = s.live := rfl
@[simp] theorem State.setModules_shutdown (s : State) (ms : List Module) : (s.setModules ms).shutdown = s.shutdown := rfl
@[simp] theorem State.setModules_input (s : State) (ms : List Module) : (s.setModules ms).input = s.input := rfl
@[simp] theorem State.setModules_result (s : State) (ms : List Module) : (s.setModules ms).result = s.result := rfl
@[simp] theorem State.setModules_draws (s : State) (ms : List Module) : (s.setModules ms).draws = s.draws := rfl

/-! ### reportDeviceError -/

@[simp] theorem reportDeviceError_modules (m : ModuleRef) (s : State) : (reportDeviceError m s).modules = s.modules := rfl
@[simp] theorem reportDeviceError_bus (m : ModuleRef) (s : State) : (reportDeviceError m s).bus = s.bus := rfl
@[simp] theorem reportDeviceError_pic (m : ModuleRef) (s : State) : (reportDeviceError m s).pic = s.pic := rfl
@[simp] theorem reportDeviceError_vga (m : ModuleRef) (s : State) : (reportDeviceError m s).vga = s.vga := rfl
@[simp] theorem reportDeviceError_out (m : ModuleRef) (s : State) : (reportDeviceError m s).out = s.out := rfl
@[simp] theorem reportDeviceError_faulted (m : ModuleRef) (s : State) : (reportDeviceError m s).faulted = s.faulted := rfl
@[simp] theorem reportDeviceError_live (m : ModuleRef) (s : State) : (reportDeviceError m s).live = s.live := rfl
@[simp] theorem reportDeviceError_input (m : ModuleRef) (s : State) : (reportDeviceError m s).input = s.input := rfl
@[simp] theorem reportDeviceError_result (m : ModuleRef) (s : State) : (reportDeviceError m s).result = s.result := rfl
@[simp] theorem reportDeviceError_draws (m : ModuleRef) (s : State) : (reportDeviceError m s).draws = s.draws := rfl
@[simp] theorem reportDeviceError_log (m : ModuleRef) (s : State) : (reportDeviceError m s).log = s.log ++ [.device m] := rfl
@[simp] theorem reportDeviceError_shutdown (m : ModuleRef) (s : State) : (reportDeviceError m s).shutdown = true := rfl

/-! ### raiseFault and stopOp -/

@[simp] theorem raiseFault_modules (e : Fault) (s : State) : (raiseFault e s).modules = s.modules := rfl
@[simp] theorem raiseFault_bus (e : Fault) (s : State) : (raiseFault e s).bus = s.bus := rfl
@[simp] theorem raiseFault_pic (e : Fault) (s : State) : (raiseFault e s).pic = s.pic := rfl
@[simp] theorem raiseFault_vga (e : Fault) (s : State) : (raiseFault e s).vga = s.vga := rfl
@[simp] theorem raiseFault_log (e : Fault) (s : State) : (raiseFault e s).log = s.log := rfl
@[simp] theorem raiseFault_out (e : Fault) (s : State) : (raiseFault e s).out = s.out := rfl
@[simp] theorem raiseFault_faulted (e : Fault) (s : State) : (raiseFault e s).faulted = some e := rfl
@[simp] theorem raiseFault_live (e : Fault) (s : State) : (raiseFault e s).live = s.live := rfl
@[simp] theorem raiseFault_shutdown (e : Fault) (s : State) : (raiseFault e s).shutdown = s.shutdown := rfl
@[simp] theorem raiseFault_input (e : Fault) (s : State) : (raiseFault e s).input = s.input := rfl
@[simp] theorem raiseFault_result (e : Fault) (s : State) : (raiseFault e s).result = s.result := rfl
@[simp] theorem raiseFault_draws (e : Fault) (s : State) : (raiseFault e s).draws = s.draws := rfl
@[simp] theorem stopOp_modules (s : State) : (stopOp s).modules = s.modules := rfl
@[simp] theorem stopOp_bus (s : State) : (stopOp s).bus = s.bus := rfl
@[simp] theorem stopOp_pic (s : State) : (stopOp s).pic = s.pic := rfl
@[simp] theorem stopOp_vga (s : State) : (stopOp s).vga = s.vga := rfl
@[simp] theorem stopOp_log (s : State) : (stopOp s).log = s.log := rfl
@[simp] theorem stopOp_out (s : State) : (stopOp s).out = s.out := rfl
@[simp] theorem stopOp_faulted (s : State) : (stopOp s).faulted = s.faulted := rfl
@[simp] theorem stopOp_live (s : State) : (stopOp s).live = false := rfl
@[simp] theorem stopOp_shutdown (s : State) : (stopOp s).shutdown = s.shutdown := rfl
@[simp] theorem stopOp_input (s : State) : (stopOp s).input = s.input := rfl
@[simp] theorem stopOp_result (s : State) : (stopOp s).result = s.result := rfl
@[simp] theorem stopOp_draws (s : State) : (stopOp s).draws = s.draws := rfl

/-! ### Adapter updates -/


@[simp] theorem markAll_misc (v : Vga) : (markAll v).misc = v.misc := rfl
@[simp] theorem markAll_featureCtl (v : Vga) : (markAll v).featureCtl = v.featureCtl := rfl
@[simp] theorem markAll_subsysEnable (v : Vga) : (markAll v).subsysEnable = v.subsysEnable := rfl
@[simp] theorem markAll_seqIndex (v : Vga) : (markAll v).seqIndex = v.seqIndex := rfl
@[simp] theorem markAll_seq (v : Vga) : (markAll v).seq = v.seq := rfl
@[simp] theorem markAll_crtcIndex (v : Vga) : (markAll v).crtcIndex = v.crtcIndex := rfl
@[simp] theorem markAll_crtc (v : Vga) : (markAll v).crtc = v.crtc := rfl
@[simp] theorem markAll_gcIndex (v : Vga) : (markAll v).gcIndex = v.gcIndex := rfl
@[simp] theorem markAll_gc (v : Vga) : (markAll v).gc = v.gc := rfl
@[simp] theorem markAll_latch (v : Vga) : (markAll v).latch = v.latch := rfl
@[simp] theorem markAll_acFlip (v : Vga) : (markAll v).acFlip = v.acFlip := rfl
@[simp] theorem markAll_acIndex (v : Vga) : (markAll v).acIndex = v.acIndex := rfl
@[simp] theorem markAll_acPas (v : Vga) : (markAll v).acPas = v.acPas := rfl
@[simp] theorem markAll_ac (v : Vga) : (markAll v).ac = v.ac := rfl
@[simp] theorem markAll_pelMask (v : Vga) : (markAll v).pelMask = v.pelMask := rfl
@[simp] theorem markAll_dacWAddr (v : Vga) : (markAll v).dacWAddr = v.dacWAddr := rfl
@[simp] theorem markAll_dacWPhase (v : Vga) : (markAll v).dacWPhase = v.dacWPhase := rfl
@[simp] theorem markAll_dacRAddr (v : Vga) : (markAll v).dacRAddr = v.dacRAddr := rfl
@[simp] theorem markAll_dacRPhase (v : Vga) : (markAll v).dacRPhase = v.dacRPhase := rfl
@[simp] theorem markAll_dacState (v : Vga) : (markAll v).dacState = v.dacState := rfl
@[simp] theorem markAll_palette (v : Vga) : (markAll v).palette = v.palette := rfl
@[simp] theorem markAll_planes (v : Vga) : (markAll v).planes = v.planes := rfl
@[simp] theorem markAll_clean (v : Vga) : (markAll v).clean = [] := rfl
@[simp] theorem markAll_lastSize (v : Vga) : (markAll v).lastSize = v.lastSize := rfl
@[simp] theorem clearTile_misc (t : Tile) (v : Vga) : (clearTile t v).misc = v.misc := rfl
@[simp] theorem clearTile_featureCtl (t : Tile) (v : Vga) : (clearTile t v).featureCtl = v.featureCtl := rfl
@[simp] theorem clearTile_subsysEnable (t : Tile) (v : Vga) : (clearTile t v).subsysEnable = v.subsysEnable := rfl
@[simp] theorem clearTile_seqIndex (t : Tile) (v : Vga) : (clearTile t v).seqIndex = v.seqIndex := rfl
@[simp] theorem clearTile_seq (t : Tile) (v : Vga) : (clearTile t v).seq = v.seq := rfl
@[simp] theorem clearTile_crtcIndex (t : Tile) (v : Vga) : (clearTile t v).crtcIndex = v.crtcIndex := rfl
@[simp] theorem clearTile_crtc (t : Tile) (v : Vga) : (clearTile t v).crtc = v.crtc := rfl
@[simp] theorem clearTile_gcIndex (t : Tile) (v : Vga) : (clearTile t v).gcIndex = v.gcIndex := rfl
@[simp] theorem clearTile_gc (t : Tile) (v : Vga) : (clearTile t v).gc = v.gc := rfl
@[simp] theorem clearTile_latch (t : Tile) (v : Vga) : (clearTile t v).latch = v.latch := rfl
@[simp] theorem clearTile_acFlip (t : Tile) (v : Vga) : (clearTile t v).acFlip = v.acFlip := rfl
@[simp] theorem clearTile_acIndex (t : Tile) (v : Vga) : (clearTile t v).acIndex = v.acIndex := rfl
@[simp] theorem clearTile_acPas (t : Tile) (v : Vga) : (clearTile t v).acPas = v.acPas := rfl
@[simp] theorem clearTile_ac (t : Tile) (v : Vga) : (clearTile t v).ac = v.ac := rfl
@[simp] theorem clearTile_pelMask (t : Tile) (v : Vga) : (clearTile t v).pelMask = v.pelMask := rfl
@[simp] theorem clearTile_dacWAddr (t : Tile) (v : Vga) : (clearTile t v).dacWAddr = v.dacWAddr := rfl
@[simp] theorem clearTile_dacWPhase (t : Tile) (v : Vga) : (clearTile t v).dacWPhase = v.dacWPhase := rfl
@[simp] theorem clearTile_dacRAddr (t : Tile) (v : Vga) : (clearTile t v).dacRAddr = v.dacRAddr := rfl
@[simp] theorem clearTile_dacRPhase (t : Tile) (v : Vga) : (clearTile t v).dacRPhase = v.dacRPhase := rfl
@[simp] theorem clearTile_dacState (t : Tile) (v : Vga) : (clearTile t v).dacState = v.dacState := rfl
@[simp] theorem clearTile_palette (t : Tile) (v : Vga) : (clearTile t v).palette = v.palette := rfl
@[simp] theorem clearTile_planes (t : Tile) (v : Vga) : (clearTile t v).planes = v.planes := rfl
@[simp] theorem clearTile_clean (t : Tile) (v : Vga) : (clearTile t v).clean = tileInsert t v.clean := rfl
@[simp] theorem clearTile_lastSize (t : Tile) (v : Vga) : (clearTile t v).lastSize = v.lastSize := rfl
@[simp] theorem loadLatches_misc (C : Params) (i : BitVec 16) (v : Vga) : (loadLatches C i v).misc = v.misc := rfl
@[simp] theorem loadLatches_featureCtl (C : Params) (i : BitVec 16) (v : Vga) : (loadLatches C i v).featureCtl = v.featureCtl := rfl
@[simp] theorem loadLatches_subsysEnable (C : Params) (i : BitVec 16) (v : Vga) : (loadLatches C i v).subsysEnable = v.subsysEnable := rfl
@[simp] theorem loadLatches_seqIndex (C : Params) (i : BitVec 16) (v : Vga) : (loadLatches C i v).seqIndex = v.seqIndex := rfl
@[simp] theorem loadLatches_seq (C : Params) (i : BitVec 16) (v : Vga) : (loadLatches C i v).seq = v.seq := rfl
@[simp] theorem loadLatches_crtcIndex (C : Params) (i : BitVec 16) (v : Vga) : (loadLatches C i v).crtcIndex = v.crtcIndex := rfl
@[simp] theorem loadLatches_crtc (C : Params) (i : BitVec 16) (v : Vga) : (loadLatches C i v).crtc = v.crtc := rfl
@[simp] theorem loadLatches_gcIndex (C : Params) (i : BitVec 16) (v : Vga) : (loadLatches C i v).gcIndex = v.gcIndex := rfl
@[simp] theorem loadLatches_gc (C : Params) (i : BitVec 16) (v : Vga) : (loadLatches C i v).gc = v.gc := rfl
@[simp] theorem loadLatches_acFlip (C : Params) (i : BitVec 16) (v : Vga) : (loadLatches C i v).acFlip = v.acFlip := rfl
@[simp] theorem loadLatches_acIndex (C : Params) (i : BitVec 16) (v : Vga) : (loadLatches C i v).acIndex = v.acIndex := rfl
@[simp] theorem loadLatches_acPas (C : Params) (i : BitVec 16) (v : Vga) : (loadLatches C i v).acPas = v.acPas := rfl
@[simp] theorem loadLatches_ac (C : Params) (i : BitVec 16) (v : Vga) : (loadLatches C i v).ac = v.ac := rfl
@[simp] theorem loadLatches_pelMask (C : Params) (i : BitVec 16) (v : Vga) : (loadLatches C i v).pelMask = v.pelMask := rfl
@[simp] theorem loadLatches_dacWAddr (C : Params) (i : BitVec 16) (v : Vga) : (loadLatches C i v).dacWAddr = v.dacWAddr := rfl
@[simp] theorem loadLatches_dacWPhase (C : Params) (i : BitVec 16) (v : Vga) : (loadLatches C i v).dacWPhase = v.dacWPhase := rfl
@[simp] theorem loadLatches_dacRAddr (C : Params) (i : BitVec 16) (v : Vga) : (loadLatches C i v).dacRAddr = v.dacRAddr := rfl
@[simp] theorem loadLatches_dacRPhase (C : Params) (i : BitVec 16) (v : Vga) : (loadLatches C i v).dacRPhase = v.dacRPhase := rfl
@[simp] theorem loadLatches_dacState (C : Params) (i : BitVec 16) (v : Vga) : (loadLatches C i v).dacState = v.dacState := rfl
@[simp] theorem loadLatches_palette (C : Params) (i : BitVec 16) (v : Vga) : (loadLatches C i v).palette = v.palette := rfl
@[simp] theorem loadLatches_planes (C : Params) (i : BitVec 16) (v : Vga) : (loadLatches C i v).planes = v.planes := rfl
@[simp] theorem loadLatches_clean (C : Params) (i : BitVec 16) (v : Vga) : (loadLatches C i v).clean = v.clean := rfl
@[simp] theorem loadLatches_lastSize (C : Params) (i : BitVec 16) (v : Vga) : (loadLatches C i v).lastSize = v.lastSize := rfl
@[simp] theorem loadLatches_latch (C : Params) (i : BitVec 16) (v : Vga) (q : Fin 4) :
    (loadLatches C i v).latch.get q = planeRead C v.planes q i := by
  simp [loadLatches, Vector.get]; rfl

end Sys2Proof.Machine
end

