-- ==== Sys2Proof/Laws/Cells.lean ====
section
/-! SUPPORT. The laws of cells and of the clean-tile list: read after write, and that every memory
operation keeps the canonical form. -/

namespace Sys2Proof.Machine

/-! ### Cells -/

@[simp] theorem cellLookup_insert_self {α : Type} (a : Nat) (x : α) (m : List (Nat × α)) :
    cellLookup a (cellInsert a x m) = some x := by
  induction m with
  | nil => simp [cellInsert, cellLookup]
  | cons c rest ih =>
    obtain ⟨k, y⟩ := c
    simp only [cellInsert]
    split
    · simp [cellLookup]
    · split
      · simp [cellLookup]
      · rename_i h
        simp [cellLookup, Ne.symm h, ih]

theorem cellLookup_insert_of_ne {α : Type} {a b : Nat} (h : b ≠ a) (x : α) (m : List (Nat × α)) :
    cellLookup b (cellInsert a x m) = cellLookup b m := by
  induction m with
  | nil => simp [cellInsert, cellLookup, Ne.symm h]
  | cons c rest ih =>
    obtain ⟨k, y⟩ := c
    simp only [cellInsert]
    split
    · simp [cellLookup, Ne.symm h]
    · split
      · rename_i hk
        subst hk
        simp [cellLookup, Ne.symm h]
      · simp [cellLookup, ih]

theorem cellsWf_iff {α : Type} (bound : Nat) (m : List (Nat × α)) :
    cellsWf bound m = true ↔
      (m.map Prod.fst).Pairwise (· < ·) ∧ ∀ c ∈ m, c.1 < bound := by
  simp [cellsWf]

theorem mem_cellInsert {α : Type} {a : Nat} {x : α} {m : List (Nat × α)} {c : Nat × α}
    (h : c ∈ cellInsert a x m) : c = (a, x) ∨ c ∈ m := by
  induction m with
  | nil => simpa [cellInsert] using h
  | cons d rest ih =>
    obtain ⟨k, y⟩ := d
    simp only [cellInsert] at h
    split at h
    · simpa using h
    · split at h
      · simp only [List.mem_cons] at h ⊢
        tauto
      · simp only [List.mem_cons] at h ⊢
        rcases h with h | h
        · exact .inr (.inl h)
        · rcases ih h with h | h
          · exact .inl h
          · exact .inr (.inr h)

/-- Inserting below the bound keeps the canonical form. -/
theorem cellsWf_insert {α : Type} {bound a : Nat} (ha : a < bound) (x : α) {m : List (Nat × α)}
    (h : cellsWf bound m = true) : cellsWf bound (cellInsert a x m) = true := by
  induction m with
  | nil => simp [cellsWf_iff, cellInsert, ha]
  | cons d rest ih =>
    obtain ⟨k, y⟩ := d
    have hrest : cellsWf bound rest = true := by
      rw [cellsWf_iff] at h ⊢
      exact ⟨(List.pairwise_cons.1 h.1).2, fun c hc => h.2 c (List.mem_cons_of_mem _ hc)⟩
    have ih' := ih hrest
    rw [cellsWf_iff] at h ih' ⊢
    have hk := List.pairwise_cons.1 h.1
    simp only [cellInsert]
    split
    · rename_i hlt
      refine ⟨?_, ?_⟩
      · rw [List.map_cons, List.pairwise_cons]
        refine ⟨fun b hb => ?_, h.1⟩
        simp only [List.map_cons, List.mem_cons] at hb
        rcases hb with rfl | hb
        · exact hlt
        · exact Nat.lt_trans hlt (hk.1 b hb)
      · intro c hc
        rcases List.mem_cons.1 hc with rfl | hc
        · exact ha
        · exact h.2 c hc
    · split
      · rename_i _ heq
        subst heq
        refine ⟨by simpa using h.1, fun c hc => ?_⟩
        rcases List.mem_cons.1 hc with rfl | hc
        · exact ha
        · exact h.2 c (List.mem_cons_of_mem _ hc)
      · rename_i h1 h2
        refine ⟨?_, fun c hc => ?_⟩
        · rw [List.map_cons, List.pairwise_cons]
          refine ⟨fun b hb => ?_, ih'.1⟩
          obtain ⟨c, hc, rfl⟩ := List.mem_map.1 hb
          rcases mem_cellInsert hc with rfl | hc
          · show k < a
            omega
          · exact hk.1 _ (List.mem_map.2 ⟨c, hc, rfl⟩)
        · rcases List.mem_cons.1 hc with rfl | hc
          · exact h.2 _ (List.mem_cons_self ..)
          · exact ih'.2 c hc

/-! ### Video memory -/

theorem planeKey_lt (p : Fin 4) (i : BitVec 16) : planeKey p i < 262144 := by
  have := p.isLt
  have := i.isLt
  simp only [planeKey]
  omega

theorem planeKey_inj {p q : Fin 4} {i j : BitVec 16} (h : planeKey p i = planeKey q j) :
    p = q ∧ i = j := by
  have := i.isLt
  have := j.isLt
  simp only [planeKey] at h
  refine ⟨Fin.ext (by omega), BitVec.eq_of_toNat_eq (by omega)⟩

@[simp] theorem planeRead_write_self (C : Params) (m : Memory) (p : Fin 4) (i : BitVec 16)
    (b : Byte) : planeRead C (planeWrite m p i b) p i = b := by
  simp [planeRead, planeWrite]

theorem planeRead_write_of_ne (C : Params) (m : Memory) {p q : Fin 4} {i j : BitVec 16} (b : Byte)
    (h : ¬(q = p ∧ j = i)) : planeRead C (planeWrite m p i b) q j = planeRead C m q j := by
  have hk : planeKey q j ≠ planeKey p i := fun e => h (planeKey_inj e)
  simp [planeRead, planeWrite, cellLookup_insert_of_ne hk]

/-- Every memory operation keeps the canonical form: `planeWrite`. -/
theorem planeWrite_wf {m : Memory} (h : Memory.wf m = true) (p : Fin 4) (i : BitVec 16) (b : Byte) :
    Memory.wf (planeWrite m p i b) = true :=
  cellsWf_insert (planeKey_lt p i) b h

/-- Every memory operation keeps the canonical form: `storeAll`. -/
theorem storeAll_wf (ws : List (Fin 4 × BitVec 16 × Byte)) {m : Memory} (h : Memory.wf m = true) :
    Memory.wf (storeAll ws m) = true := by
  induction ws generalizing m with
  | nil => exact h
  | cons w ws ih => exact ih (planeWrite_wf h w.1 w.2.1 w.2.2)

/-- A run of stores changes only the bytes it stores. -/
theorem planeRead_storeAll_of_not_mem (C : Params) (ws : List (Fin 4 × BitVec 16 × Byte))
    (m : Memory) (q : Fin 4) (j : BitVec 16) (h : ∀ w ∈ ws, ¬(q = w.1 ∧ j = w.2.1)) :
    planeRead C (storeAll ws m) q j = planeRead C m q j := by
  induction ws generalizing m with
  | nil => rfl
  | cons w ws ih =>
    have h1 := ih (planeWrite m w.1 w.2.1 w.2.2) fun x hx => h x (List.mem_cons_of_mem _ hx)
    exact h1.trans (planeRead_write_of_ne C m w.2.2 (h w (List.mem_cons_self ..)))

theorem powerOn_memory_wf : Memory.wf State.powerOn.vga.planes = true := by decide

theorem reset_memory_wf : Memory.wf State.reset.vga.planes = true := by decide

/-! ### Clean tiles -/

theorem mem_tileInsert {t u : Tile} {ts : List Tile} :
    u ∈ tileInsert t ts ↔ u = t ∨ u ∈ ts := by
  induction ts with
  | nil => simp [tileInsert]
  | cons x rest ih =>
    simp only [tileInsert]
    split
    · simp
    · split
      · rename_i _ h
        subst h
        simp
      · simp only [List.mem_cons, ih]
        tauto

theorem tileBefore_trans {a b c : Tile} (h1 : tileBefore a b = true) (h2 : tileBefore b c = true) :
    tileBefore a c = true := by
  simp only [tileBefore, Bool.or_eq_true, Bool.and_eq_true, decide_eq_true_eq, beq_iff_eq] at *
  omega

theorem tileBefore_total {a b : Tile} (h : ¬tileBefore a b = true) (hne : a ≠ b) :
    tileBefore b a = true := by
  obtain ⟨ac, ar⟩ := a
  obtain ⟨bc, br⟩ := b
  simp only [tileBefore, Bool.or_eq_true, Bool.and_eq_true, decide_eq_true_eq, beq_iff_eq,
    ne_eq, Tile.mk.injEq] at *
  omega

theorem cleanWf_iff (C : Params) (ts : List Tile) :
    cleanWf C ts = true ↔
      ts.Pairwise (fun a b => tileBefore a b = true) ∧
        ∀ t ∈ ts, t.col < C.gridCols ∧ t.row < C.gridRows := by
  simp [cleanWf]

/-- Clearing a tile of the grid keeps the canonical form. -/
theorem cleanWf_tileInsert {C : Params} {t : Tile} {ts : List Tile}
    (ht : t.col < C.gridCols ∧ t.row < C.gridRows) (h : cleanWf C ts = true) :
    cleanWf C (tileInsert t ts) = true := by
  rw [cleanWf_iff] at h ⊢
  refine ⟨?_, fun u hu => ?_⟩
  · have hp := h.1
    clear h
    induction ts with
    | nil => simp [tileInsert]
    | cons x rest ih =>
      have hx := List.pairwise_cons.1 hp
      simp only [tileInsert]
      split
      · rename_i hb
        refine List.pairwise_cons.2 ⟨fun u hu => ?_, hp⟩
        rcases List.mem_cons.1 hu with rfl | hu
        · exact hb
        · exact tileBefore_trans hb (hx.1 u hu)
      · split
        · exact hp
        · rename_i hb hne
          refine List.pairwise_cons.2 ⟨fun u hu => ?_, ih hx.2⟩
          rcases mem_tileInsert.1 hu with rfl | hu
          · exact tileBefore_total hb hne
          · exact hx.1 u hu
  · rcases mem_tileInsert.1 hu with rfl | hu
    · exact ht
    · exact h.2 u hu

/-- Marking tiles keeps the canonical form. -/
theorem cleanWf_filter {C : Params} {ts : List Tile} (f : Tile → Bool) (h : cleanWf C ts = true) :
    cleanWf C (ts.filter f) = true := by
  rw [cleanWf_iff] at h ⊢
  exact ⟨h.1.filter f, fun t ht => h.2 t (List.mem_filter.1 ht).1⟩

theorem cleanWf_nil (C : Params) : cleanWf C [] = true := by simp [cleanWf]

/-- Above every listed cell nothing is stored. -/
theorem cellLookup_of_lt {α} {a : Nat} {m : List (Nat × α)} (h : ∀ x ∈ m, x.1 < a) :
    cellLookup a m = none := by
  induction m with
  | nil => rfl
  | cons x m ih =>
    have hx : x.1 < a := h x (List.mem_cons_self ..)
    obtain ⟨k, y⟩ := x
    simp only [cellLookup, if_neg (Nat.ne_of_lt hx)]
    exact ih fun y hy => h y (List.mem_cons_of_mem _ hy)

/-- Above every listed cell, inserting appends. -/
theorem cellInsert_of_lt {α} {a : Nat} (b : α) {m : List (Nat × α)} (h : ∀ x ∈ m, x.1 < a) :
    cellInsert a b m = m ++ [(a, b)] := by
  induction m with
  | nil => rfl
  | cons x m ih =>
    have hx : x.1 < a := h x (List.mem_cons_self ..)
    obtain ⟨k, y⟩ := x
    simp only [cellInsert, if_neg (Nat.not_lt_of_gt hx), if_neg (Nat.ne_of_gt hx),
      ih fun y hy => h y (List.mem_cons_of_mem _ hy), List.cons_append]

end Sys2Proof.Machine
end

