-- ==== Sys2Proof/Laws/Ops.lean ====
section
/-! SUPPORT. For each shared operation, one lemma that says everything it can do. Proofs cite these
instead of unfolding the operation. -/

namespace Sys2Proof.Machine

/-! ### Passes -/

@[simp] theorem andAll_nil (s : State) : andAll [] s = (s, true) := rfl

@[simp] theorem andAll_cons (f : State → State × Bool) (fs : List (State → State × Bool)) (s : State) :
    andAll (f :: fs) s = ((andAll fs (f s).1).1, (f s).2 && (andAll fs (f s).1).2) := rfl

/-- What every step of a pass keeps, the pass keeps. -/
theorem andAll_keeps {P : State → Prop} {fs : List (State → State × Bool)}
    (h : ∀ f ∈ fs, ∀ s, P s → P (f s).1) {s : State} (hs : P s) : P (andAll fs s).1 := by
  induction fs generalizing s with
  | nil => exact hs
  | cons f fs ih =>
    exact ih (fun g hg => h g (List.mem_cons_of_mem _ hg)) (h f (List.mem_cons_self ..) s hs)

/-- What relates a step's state to its next one, reflexive and transitive, relates a pass's. -/
theorem andAll_relates {R : State → State → Prop} (hrefl : ∀ s, R s s)
    (htrans : ∀ s t u, R s t → R t u → R s u) {fs : List (State → State × Bool)}
    (h : ∀ f ∈ fs, ∀ s, R s (f s).1) (s : State) : R s (andAll fs s).1 :=
  andAll_keeps (P := R s) (fun f hf t ht => htrans s t _ ht (h f hf t)) (hrefl s)

/-! ### Bus -/

/-- `Bind(p, m)`: a new binding, the same binding again, or a rejected one. -/
theorem bindPort_cases (p : Port) (m : ModuleRef) (s : State) :
    (s.bus.portOwner p = none ∧
      bindPort p m s =
        (s.setBus { s.bus with portMap := cellInsert p.toNat m s.bus.portMap }, true)) ∨
    (s.bus.portOwner p = some m ∧ bindPort p m s = (s, true)) ∨
    (∃ o, o ≠ m ∧ s.bus.portOwner p = some o ∧
      bindPort p m s = (s.record (.bindConflict p o m), false)) := by
  unfold bindPort
  cases h : s.bus.portOwner p with
  | none => exact .inl ⟨rfl, rfl⟩
  | some o =>
    by_cases ho : o = m
    · subst ho
      exact .inr (.inl ⟨rfl, by simp⟩)
    · exact .inr (.inr ⟨o, ho, rfl, by simp [ho]⟩)

/-- A port handler either reports a device error or does not; one draw either way. -/
theorem deviceStep_cases (C : Params) (m : ModuleRef) (s : State) :
    deviceStep C m s = s.countDraw ∨ deviceStep C m s = reportDeviceError m s.countDraw := by
  unfold deviceStep
  split
  · exact .inr rfl
  · exact .inl rfl

/-- A port read: unbound, answered by the VGA's handler, stopped by the gate, or another module's. -/
theorem portRead_cases (C : Params) (p : Port) (h : State → State × Byte) (s : State) :
    (s.bus.portOwner p = none ∧ portRead C p h s = (s.record (.unboundPort p none), 0xFF)) ∨
    (s.VgaAnswers p ∧ portRead C p h s = h s) ∨
    (s.VgaMismatch p ∧ portRead C p h s = (s.record (.modeMismatch p), 0xFF)) ∨
    (∃ m, s.bus.portOwner p = some m ∧ s.isVideo m = false ∧
      portRead C p h s = foreignRead C m s) := by
  unfold portRead
  cases ho : s.bus.portOwner p with
  | none => exact .inl ⟨rfl, rfl⟩
  | some m =>
    cases hv : s.isVideo m with
    | false => exact .inr (.inr (.inr ⟨m, rfl, hv, by simp [hv]⟩))
    | true =>
      cases ha : s.vga.gatePasses p with
      | true => exact .inr (.inl ⟨⟨m, ho, hv, ha⟩, by simp [hv]⟩)
      | false => exact .inr (.inr (.inl ⟨⟨m, ho, hv, ha⟩, by simp [hv]⟩))

/-- A port write: unbound, taken by the VGA's handler, stopped by the gate, or another module's. -/
theorem portWrite_cases (C : Params) (p : Port) (d : Byte) (h : State → State) (s : State) :
    (s.bus.portOwner p = none ∧ portWrite C p d h s = s.record (.unboundPort p (some d))) ∨
    (s.VgaAnswers p ∧ portWrite C p d h s = h s) ∨
    (s.VgaMismatch p ∧ portWrite C p d h s = s.record (.modeMismatch p)) ∨
    (∃ m, s.bus.portOwner p = some m ∧ s.isVideo m = false ∧
      portWrite C p d h s = deviceStep C m s) := by
  unfold portWrite
  cases ho : s.bus.portOwner p with
  | none => exact .inl ⟨rfl, rfl⟩
  | some m =>
    cases hv : s.isVideo m with
    | false => exact .inr (.inr (.inr ⟨m, rfl, hv, by simp [hv, foreignWrite]⟩))
    | true =>
      cases ha : s.vga.gatePasses p with
      | true => exact .inr (.inl ⟨⟨m, ho, hv, ha⟩, by simp [hv]⟩)
      | false => exact .inr (.inr (.inl ⟨⟨m, ho, hv, ha⟩, by simp [hv]⟩))

theorem portRead_of_unbound {C : Params} {p : Port} {h : State → State × Byte} {s : State}
    (ho : s.bus.portOwner p = none) :
    portRead C p h s = (s.record (.unboundPort p none), 0xFF) := by
  simp [portRead, ho, unboundRead]

theorem portRead_of_answers {C : Params} {p : Port} {h : State → State × Byte} {s : State}
    (ha : s.VgaAnswers p) : portRead C p h s = h s := by
  obtain ⟨m, ho, hv, hg⟩ := ha
  simp [portRead, ho, hv, hg]

theorem portRead_of_mismatch {C : Params} {p : Port} {h : State → State × Byte} {s : State}
    (ha : s.VgaMismatch p) : portRead C p h s = (s.record (.modeMismatch p), 0xFF) := by
  obtain ⟨m, ho, hv, hg⟩ := ha
  simp [portRead, ho, hv, hg]

theorem portWrite_of_unbound {C : Params} {p : Port} {d : Byte} {h : State → State} {s : State}
    (ho : s.bus.portOwner p = none) :
    portWrite C p d h s = s.record (.unboundPort p (some d)) := by
  simp [portWrite, ho, unboundWrite]

theorem portWrite_of_answers {C : Params} {p : Port} {d : Byte} {h : State → State} {s : State}
    (ha : s.VgaAnswers p) : portWrite C p d h s = h s := by
  obtain ⟨m, ho, hv, hg⟩ := ha
  simp [portWrite, ho, hv, hg]

theorem portWrite_of_mismatch {C : Params} {p : Port} {d : Byte} {h : State → State} {s : State}
    (ha : s.VgaMismatch p) : portWrite C p d h s = s.record (.modeMismatch p) := by
  obtain ⟨m, ho, hv, hg⟩ := ha
  simp [portWrite, ho, hv, hg]

/-! ### Timers -/

theorem normalizeInterval_pos (C : Params) (m : ModuleRef) (i : Int) :
    0 < normalizeInterval C m i := by
  unfold normalizeInterval
  split
  · omega
  · exact (C.defaultIntervalUs m).pos

/-- A found entry is in the list and is the module's. -/
theorem timerIndex_some {ts : List Timer} {m : ModuleRef} {k : Nat}
    (h : timerIndex ts m = some k) : ∃ hk : k < ts.length, ts[k].owner = m := by
  obtain ⟨hk, h1, _⟩ := List.findIdx?_eq_some_iff_getElem.1 h
  exact ⟨hk, by simpa using h1⟩

/-- The first entry of a module, where the list is cut at it. -/
theorem timerIndex_append {pre post : List Timer} {e : Timer} {m : ModuleRef} (he : e.owner = m)
    (hp : ∀ x ∈ pre, x.owner ≠ m) : timerIndex (pre ++ e :: post) m = some pre.length := by
  have : pre.findIdx? (fun x => x.owner == m) = none := by
    rw [List.findIdx?_eq_none_iff]
    intro x hx
    simpa using hp x hx
  simp [timerIndex, List.findIdx?_append, this, List.findIdx?_cons, he]

/-- No entry found: the module owns none. -/
theorem timerIndex_none {ts : List Timer} {m : ModuleRef} (h : timerIndex ts m = none) :
    ∀ e ∈ ts, e.owner ≠ m := by
  intro e he
  simpa using List.findIdx?_eq_none_iff.1 h e he

/-- `RequestTimer(m, i, a)`: the module's entry renewed in place, or a new last entry. -/
theorem requestTimer_cases (C : Params) (m : ModuleRef) (i : Int) (a : Bool) (s : State) :
    (∃ k, timerIndex s.bus.timers m = some k ∧
      requestTimer C m i a s = s.setTimer k (Timer.mk m (normalizeInterval C m i) a 0)) ∨
    (timerIndex s.bus.timers m = none ∧
      requestTimer C m i a s = s.setBus { s.bus with
        timers := s.bus.timers ++ [Timer.mk m (normalizeInterval C m i) a 0] }) := by
  unfold requestTimer
  cases timerIndex s.bus.timers m with
  | none => exact .inr ⟨rfl, rfl⟩
  | some k => exact .inl ⟨k, rfl, rfl⟩

/-- A timer call on one entry: the entry changed in place, or E_NO_TIMER. -/
theorem updateTimer_cases (m : ModuleRef) (f : Timer → Timer) (s : State) :
    (∃ k, timerIndex s.bus.timers m = some k ∧
      updateTimer m f s = s.setBus { s.bus with timers := s.bus.timers.modify k f }) ∨
    (timerIndex s.bus.timers m = none ∧ updateTimer m f s = s.record (.noTimer m)) := by
  unfold updateTimer
  cases timerIndex s.bus.timers m with
  | none => exact .inr ⟨rfl, rfl⟩
  | some k => exact .inl ⟨k, rfl, rfl⟩

/-- Reading an interval changes at most the log. -/
theorem getUpdateInterval_cases (C : Params) (m : ModuleRef) (s : State) :
    (∃ e ∈ s.bus.timers, e.owner = m ∧ getUpdateInterval C m s = (s, e.interval)) ∨
    ((∀ e ∈ s.bus.timers, e.owner ≠ m) ∧
      getUpdateInterval C m s = (s.record (.noTimer m), (C.defaultIntervalUs m : Nat))) := by
  unfold getUpdateInterval
  cases h : s.bus.timers.find? (fun e => e.owner == m) with
  | none =>
    refine .inr ⟨fun e he => ?_, rfl⟩
    simpa using List.find?_eq_none.1 h e he
  | some e =>
    exact .inl ⟨e, List.mem_of_find?_eq_some h, by simpa using List.find?_some h, rfl⟩

/-! ### PIC -/

theorem ownedLine_some {p : Pic} {m : ModuleRef} {n : Line} (h : p.ownedLine m = some n) :
    p.owner.get n = some m := by
  simpa using List.find?_some h

theorem ownedLine_none {p : Pic} {m : ModuleRef} (h : p.ownedLine m = none) (n : Line) :
    p.owner.get n ≠ some m := by
  simpa using List.find?_eq_none.1 h n (List.mem_finRange n)

theorem freeLine_some {C : Params} {p : Pic} {n : Line} (h : p.freeLine C = some n) :
    n ∈ C.irqPool ∧ p.owner.get n = none :=
  ⟨List.mem_of_find?_eq_some h, by simpa using List.find?_some h⟩

theorem freeLine_none {C : Params} {p : Pic} (h : p.freeLine C = none) :
    ∀ n ∈ C.irqPool, p.owner.get n ≠ none := by
  intro n hn
  simpa using List.find?_eq_none.1 h n hn

/-- `RequestIRQ(m)`: the line already owned, a new line of the pool, or exhaustion. -/
theorem requestIrq_cases (C : Params) (m : ModuleRef) (s : State) :
    (∃ n, s.pic.ownedLine m = some n ∧ requestIrq C m s = (s, some n)) ∨
    (∃ n, s.pic.ownedLine m = none ∧ s.pic.freeLine C = some n ∧
      requestIrq C m s =
        (s.setPic { s.pic with owner := s.pic.owner.set n (some m) }, some n)) ∨
    (s.pic.ownedLine m = none ∧ s.pic.freeLine C = none ∧
      requestIrq C m s = (s.record (.irqExhausted m), none)) := by
  unfold requestIrq
  cases s.pic.ownedLine m with
  | some n => exact .inl ⟨n, rfl, rfl⟩
  | none =>
    cases s.pic.freeLine C with
    | some n => exact .inr (.inl ⟨n, rfl, rfl, rfl⟩)
    | none => exact .inr (.inr ⟨rfl, rfl, rfl⟩)

theorem ownedNumber_some {p : Pic} {b : Byte} {n : Line} (h : p.ownedNumber b = some n) :
    b.toNat = n.val + 1 ∧ (p.owner.get n).isSome = true := by
  unfold Pic.ownedNumber at h
  split at h
  · rename_i k hk
    split at h
    · rename_i ho
      cases h
      unfold lineOfNumber at hk
      split at hk
      · cases hk
        exact ⟨by simp only; omega, ho⟩
      · cases hk
    · cases h
  · cases h

/-- `SetIRQ(n)`, `ClearIRQ(n)`: the raised flag of an owned line, or E_IRQ_INVALID. -/
theorem changeIrq_cases (b : Bool) (number : Byte) (s : State) :
    (∃ n, s.pic.ownedNumber number = some n ∧
      changeIrq b number s = s.setPic (s.pic.setRaised n b)) ∨
    (s.pic.ownedNumber number = none ∧
      changeIrq b number s = s.record (.irqInvalid number)) := by
  unfold changeIrq
  cases s.pic.ownedNumber number with
  | none => exact .inr ⟨rfl, rfl⟩
  | some n => exact .inl ⟨n, rfl, rfl⟩

theorem lowestRaised_some {p : Pic} {n : Line} (h : p.lowestRaised = some n) :
    p.raised.get n = true := by
  simpa using List.find?_some h

/-- `Inta()`: the fault, or the service address of the lowest raised line. -/
theorem acknowledge_cases (C : Params) (s : State) :
    ((s.pic.intrPending = false ∨ s.pic.lowestRaised = none) ∧
      acknowledge C s = (raiseFault .ackNone s).answer .unit) ∨
    (∃ n, s.pic.intrPending = true ∧ s.pic.lowestRaised = some n ∧
      acknowledge C s =
        (clearIfEdge C n s).answer (.byte (C.vector n))) := by
  unfold acknowledge
  cases hp : s.pic.intrPending with
  | false => exact .inl ⟨.inl rfl, by simp⟩
  | true =>
    cases hl : s.pic.lowestRaised with
    | none => exact .inl ⟨.inr rfl, by simp⟩
    | some n => exact .inr ⟨n, rfl, rfl, by simp⟩

/-- Serving a line lowers it or leaves it. -/
theorem clearIfEdge_cases (C : Params) (n : Line) (s : State) :
    (C.trigger n = .edge ∧ clearIfEdge C n s = s.setPic (s.pic.setRaised n false)) ∨
    (C.trigger n = .level ∧ clearIfEdge C n s = s) := by
  unfold clearIfEdge
  cases C.trigger n <;> simp

/-! ### Window -/

/-- `MemRead`: outside the window nothing; inside, the latches are loaded from one index. -/
theorem memRead_cases (C : Params) (addr : PhysAddr) (s : State) :
    (s.vga.resolve addr = none ∧ memRead C addr s = (s, 0xFF)) ∨
    (∃ off b, s.vga.resolve addr = some off ∧
      memRead C addr s =
        (s.setVga
          (loadLatches C (if s.vga.chain4 then chainIndex off else off) s.vga), b)) := by
  unfold memRead
  cases s.vga.resolve addr with
  | none => exact .inl ⟨rfl, rfl⟩
  | some off =>
    refine .inr ⟨off, (readInside C off s.vga).2, rfl, ?_⟩
    cases hc : s.vga.chain4 <;> simp [readInside, hc]

/-- Font notification: at most one FontWrite event. -/
theorem fontCheck_cases (C : Params) (off : BitVec 16) (s : State) :
    fontCheck C off s = s ∨ ∃ k b, fontCheck C off s = s.emit (.fontWrite k b) := by
  unfold fontCheck
  split
  · exact .inr ⟨_, _, rfl⟩
  · exact .inl rfl

/-- Dirty marking changes the clean tiles alone, and only removes from them. -/
theorem markTiles_cases (C : Params) (off : BitVec 16) (v : Vga) :
    ∃ f : Tile → Bool, markTiles C off v = { v with clean := v.clean.filter f } := by
  unfold markTiles
  split
  · exact ⟨fun _ => false, by simp [markAll]⟩
  · split
    · exact ⟨fun _ => false, by simp [markAll]⟩
    · exact ⟨_, rfl⟩

/-- `MemWrite`: nothing, or stores, tiles marked and at most one FontWrite. -/
theorem memWrite_cases (C : Params) (addr : PhysAddr) (d : Byte) (s : State) :
    memWrite C addr d s = s ∨
    (∃ off ws f, s.vga.resolve addr = some off ∧ storesOf C s.vga off d = ws ∧ ws ≠ [] ∧
      let v := { s.vga with
        planes := storeAll ws s.vga.planes, clean := s.vga.clean.filter f }
      (memWrite C addr d s = s.setVga v ∨
        ∃ k b, memWrite C addr d s = (s.setVga v).emit (.fontWrite k b))) := by
  unfold memWrite
  cases s.vga.resolve addr with
  | none => exact .inl rfl
  | some off =>
    simp only [writeInside]
    cases hw : storesOf C s.vga off d with
    | nil => exact .inl rfl
    | cons w ws =>
      obtain ⟨f, hf⟩ := markTiles_cases C off
        { s.vga with planes := storeAll (w :: ws) s.vga.planes }
      refine .inr ⟨off, w :: ws, f, rfl, hw, by simp, ?_⟩
      simp only [hf]
      exact fontCheck_cases C off _

/-! ### Display -/

/-- Visiting a tile: a redraw that cleans it, or nothing. -/
theorem redrawTile_cases (C : Params) (size : Nat × Nat) (s : State) (t : Tile) :
    redrawTile C size s t = s ∨
    (s.vga.dirty t = true ∧ onScreen C size t = true ∧
      redrawTile C size s t =
        (s.emit (.tileRedraw t (C.render s.vga (.tile t)))).setVga (clearTile t s.vga)) := by
  unfold redrawTile
  split
  · rename_i h
    simp only [Bool.and_eq_true] at h
    exact .inr ⟨h.1, h.2, rfl⟩
  · exact .inl rfl

/-- The grid's tiles are in the grid. -/
theorem mem_gridTiles {C : Params} {t : Tile} :
    t ∈ gridTiles C ↔ t.col < C.gridCols ∧ t.row < C.gridRows := by
  obtain ⟨c, r⟩ := t
  simp only [gridTiles, List.mem_flatMap, List.mem_range, List.mem_map, Tile.mk.injEq]
  constructor
  · rintro ⟨r', hr, c', hc, rfl, rfl⟩
    exact ⟨hc, hr⟩
  · rintro ⟨hc, hr⟩
    exact ⟨r, hr, c, hc, rfl, rfl⟩

/-- What an update may do to a state: append outputs, and change the adapter's clean tiles and
announced size. -/
def UpdateChange (C : Params) (s t : State) : Prop :=
  ∃ es ts sz,
    t = { s with out := s.out ++ es, vga := { s.vga with clean := ts, lastSize := sz } } ∧
    (cleanWf C s.vga.clean = true → cleanWf C ts = true)

theorem UpdateChange.refl (C : Params) (s : State) : UpdateChange C s s :=
  ⟨[], s.vga.clean, s.vga.lastSize, by simp, id⟩

theorem UpdateChange.trans {C : Params} {s t u : State} (h1 : UpdateChange C s t)
    (h2 : UpdateChange C t u) : UpdateChange C s u := by
  obtain ⟨e1, t1, z1, rfl, w1⟩ := h1
  obtain ⟨e2, t2, z2, rfl, w2⟩ := h2
  exact ⟨e1 ++ e2, t2, z2, by simp, fun h => w2 (w1 h)⟩

theorem UpdateChange.foldl {C : Params} {α : Type} (f : State → α → State) (xs : List α)
    (hf : ∀ s, ∀ x ∈ xs, UpdateChange C s (f s x)) (s : State) :
    UpdateChange C s (xs.foldl f s) := by
  induction xs generalizing s with
  | nil => exact UpdateChange.refl C s
  | cons x xs ih =>
    exact (hf s x (List.mem_cons_self ..)).trans
      (ih (fun s y hy => hf s y (List.mem_cons_of_mem _ hy)) (f s x))

theorem clearTiles_eq (ts : List Tile) (v : Vga) :
    ts.foldl (fun v t => clearTile t v) v =
      { v with clean := ts.foldl (fun c t => tileInsert t c) v.clean } := by
  induction ts generalizing v with
  | nil => rfl
  | cons t ts ih => rw [List.foldl_cons, ih]; rfl

theorem clearTiles_wf {C : Params} (ts : List Tile)
    (h : ∀ t ∈ ts, t.col < C.gridCols ∧ t.row < C.gridRows) (cs : List Tile)
    (hc : cleanWf C cs = true) : cleanWf C (ts.foldl (fun c t => tileInsert t c) cs) = true := by
  induction ts generalizing cs with
  | nil => exact hc
  | cons t ts ih =>
    exact ih (fun u hu => h u (List.mem_cons_of_mem _ hu)) _
      (cleanWf_tileInsert (h t (List.mem_cons_self ..)) hc)

/-- Everything an update can do (43_vga_display.md R290): it writes no register, latch or memory. -/
theorem vgaUpdate_change (C : Params) (s : State) : UpdateChange C s (vgaUpdate C s) := by
  unfold vgaUpdate
  split
  · exact UpdateChange.refl C s
  · simp only
    refine UpdateChange.trans (t := announceSize (s.vga.screenSize C) s) ?_ ?_
    · unfold announceSize
      split
      · exact UpdateChange.refl C s
      · exact ⟨[.resize (s.vga.screenSize C).1 (s.vga.screenSize C).2], [],
          some (s.vga.screenSize C), rfl, fun _ => cleanWf_nil C⟩
    · split
      · unfold graphicsUpdate
        refine UpdateChange.foldl _ _ (fun s t ht => ?_) _
        rcases redrawTile_cases C (s.vga.screenSize C) s t with h | h
        all_goals
          unfold redrawTile
          split
          · exact ⟨_, _, _, rfl, fun h => cleanWf_tileInsert (mem_gridTiles.1 ht) h⟩
          · exact UpdateChange.refl C s
      · unfold textUpdate
        simp only [clearTiles_eq]
        refine ⟨_, _, _, rfl, fun h => clearTiles_wf _ (fun t ht => ?_) _ h⟩
        exact mem_gridTiles.1 (List.mem_filter.1 ht).1

/-! ### Ticks and resets -/

/-- Visiting a timer entry: nothing, an accumulation, or a firing. -/
theorem tickEntry_cases (C : Params) (d : Nat) (s : State) (k : Nat) :
    tickEntry C d s k = s ∨
    (∃ e, s.bus.timers[k]? = some e ∧ e.active = true ∧ e.acc + d < e.interval ∧
      tickEntry C d s k = s.setTimer k { e with acc := e.acc + d }) ∨
    (∃ e, s.bus.timers[k]? = some e ∧ e.active = true ∧ e.interval ≤ e.acc + d ∧
      tickEntry C d s k = runUpdate C e.owner
        ((s.setTimer k { e with acc := e.acc + d - e.interval }).emit (.update e.owner))) := by
  unfold tickEntry
  cases s.bus.timers[k]? with
  | none => exact .inl rfl
  | some e =>
    cases ha : e.active with
    | false => exact .inl (by simp [ha])
    | true =>
      by_cases hi : e.interval ≤ e.acc + d
      · exact .inr (.inr ⟨e, rfl, ha, hi, by simp [ha, hi]⟩)
      · exact .inr (.inl ⟨e, rfl, ha, by omega, by simp [ha, hi]⟩)

/-- A module's update: the VGA's, or another module's. -/
theorem runUpdate_cases (C : Params) (m : ModuleRef) (s : State) :
    (s.isVideo m = true ∧ runUpdate C m s = vgaUpdate C s) ∨
    (s.isVideo m = false ∧ runUpdate C m s = foreignUpdate C m s) := by
  unfold runUpdate
  cases h : s.isVideo m with
  | true => exact .inl ⟨rfl, by simp⟩
  | false => exact .inr ⟨rfl, by simp⟩

/-- What every drawn call keeps, another module's update keeps. -/
theorem foreignUpdate_keeps {C : Params} {m : ModuleRef} {P : State → Prop}
    (h : ∀ s c, P s → P (applyUpdateCall C m s c)) {s : State} (hs : P s.countDraw) :
    P (foreignUpdate C m s) := by
  unfold foreignUpdate
  generalize C.updateCalls s.draws = cs
  generalize s.countDraw = t at hs ⊢
  induction cs generalizing t with
  | nil => exact hs
  | cons c cs ih => exact ih (applyUpdateCall C m t c) (h t c hs)

@[simp] theorem bindPorts_nil (m : ModuleRef) (s : State) : bindPorts m [] s = (s, true) := rfl

@[simp] theorem bindPorts_cons (m : ModuleRef) (p : Port) (ps : List Port) (s : State) :
    bindPorts m (p :: ps) s =
      ((bindPorts m ps (bindPort p m s).1).1,
        (bindPort p m s).2 && (bindPorts m ps (bindPort p m s).1).2) := rfl

/-- Binding ascending ports above every bound one appends them all, and no bind conflicts. -/
theorem bindPorts_ascending (m : ModuleRef) (ps : List Port)
    (hp : (ps.map BitVec.toNat).Pairwise (· < ·)) (s : State)
    (h : ∀ x ∈ s.bus.portMap, ∀ p ∈ ps, x.1 < p.toNat) :
    bindPorts m ps s =
      (s.setBus { s.bus with portMap := s.bus.portMap ++ ps.map fun p => (p.toNat, m) }, true) := by
  induction ps generalizing s with
  | nil => simp [State.setBus]
  | cons p ps ih =>
    have hl : ∀ x ∈ s.bus.portMap, x.1 < p.toNat := fun x hx => h x hx p (List.mem_cons_self ..)
    have hb : bindPort p m s =
        (s.setBus { s.bus with portMap := s.bus.portMap ++ [(p.toNat, m)] }, true) := by
      simp [bindPort, Bus.portOwner, cellLookup_of_lt hl, cellInsert_of_lt m hl]
    simp only [List.map_cons, List.pairwise_cons] at hp
    rw [bindPorts_cons, hb, ih hp.2]
    · simp [State.setBus]
    · simp only [State.setBus_bus, List.mem_append, List.mem_singleton]
      rintro x (hx | rfl) q hq
      · exact h x hx q (List.mem_cons_of_mem _ hq)
      · exact hp.1 _ (List.mem_map_of_mem hq)

/-- Another module's reset: the drawn calls as one pass, and true only when no bind of them conflicts. -/
theorem resetForeign_eq (C : Params) (s : State) :
    resetForeign C s =
      ((andAll ((C.resetCalls s.draws).map (applyResetCall C)) s.countDraw).1,
        C.resetOk s.draws &&
          (andAll ((C.resetCalls s.draws).map (applyResetCall C)) s.countDraw).2) := rfl

@[simp] theorem resetModules_nil (C : Params) (m : ModuleRef) (s : State) :
    resetModules C [] m s = (s, true) := rfl

@[simp] theorem resetModules_cons (C : Params) (x : Module) (xs : List Module) (m : ModuleRef)
    (s : State) :
    resetModules C (x :: xs) m s =
      ((resetModules C xs (m + 1) (resetModule C x.kind m s).1).1,
        (resetModule C x.kind m s).2 &&
          (resetModules C xs (m + 1) (resetModule C x.kind m s).1).2) := rfl

/-- A setup step: its own answer, or E_CONFIG and false. -/
theorem setupStep_cases (fs : List SetupStep) (x : SetupStep × (State → State × Bool)) (s : State) :
    (x.1 ∉ fs ∧ (x.2 s).2 = true ∧ setupStep fs x s = ((x.2 s).1, true)) ∨
    ((x.1 ∈ fs ∨ (x.2 s).2 = false) ∧
      setupStep fs x s = ((x.2 s).1.record (.config x.1), false)) := by
  unfold setupStep
  by_cases hm : x.1 ∈ fs
  · exact .inr ⟨.inl hm, by simp [hm]⟩
  · cases hb : (x.2 s).2 with
    | true => exact .inl ⟨hm, rfl, by simp [hm, hb]⟩
    | false => exact .inr ⟨.inr rfl, by simp [hb]⟩

/-- A module's reset, by its type. -/
theorem resetModule_cases (C : Params) (k : ModuleType) (m : ModuleRef) (s : State) :
    (k = .video ∧ resetModule C k m s = resetVideo C m s) ∨
    (k = .pic ∧ resetModule C k m s = resetPic s) ∨
    (k = .motherboard ∧ resetModule C k m s = (s, true)) ∨
    (k ≠ .video ∧ k ≠ .pic ∧ k ≠ .motherboard ∧ resetModule C k m s = resetForeign C s) := by
  cases k <;> simp [resetModule, resetMotherboard]

end Sys2Proof.Machine
end

