-- ==== Sys2Proof/Laws/PerInstr.lean ====
section
/-! SUPPORT. The fields of an encoded word (30_encoding.md R110), and the family `Format`: every
transaction's word carries the KIND of its format, with zeros in the bits the format reserves. -/

namespace Sys2Proof

/-! ### Fields of a packed word -/

theorem toNat_field (w : Word) (lo n : Nat) :
    (w.extractLsb' lo n).toNat = w.toNat / 2 ^ lo % 2 ^ n := by
  rw [BitVec.extractLsb'_toNat, Nat.shiftRight_eq_div_pow]

theorem toNat_packWord {kind mid low : Nat} (hk : kind < 16) (hm : mid < 2 ^ 20) (hl : low < 256) :
    (packWord kind mid low).toNat = kind * 2 ^ 28 + mid * 2 ^ 8 + low := by
  unfold packWord
  rw [BitVec.toNat_ofNat]
  omega

/-- T[31:28] of a packed word. -/
theorem wordKind_packWord {kind mid low : Nat} (hk : kind < 16) (hm : mid < 2 ^ 20)
    (hl : low < 256) : wordKind (packWord kind mid low) = BitVec.ofNat 4 kind := by
  apply BitVec.eq_of_toNat_eq
  rw [wordKind, toNat_field, toNat_packWord hk hm hl, BitVec.toNat_ofNat]
  omega

/-- T[27:24] of a packed word. -/
theorem wordHigh_packWord {kind mid low : Nat} (hk : kind < 16) (hm : mid < 2 ^ 20)
    (hl : low < 256) : wordHigh (packWord kind mid low) = BitVec.ofNat 4 (mid / 2 ^ 16) := by
  apply BitVec.eq_of_toNat_eq
  rw [wordHigh, toNat_field, toNat_packWord hk hm hl, BitVec.toNat_ofNat]
  omega

/-- T[23:8] of a packed word. -/
theorem wordPort_packWord {kind mid low : Nat} (hk : kind < 16) (hm : mid < 2 ^ 20)
    (hl : low < 256) : wordPort (packWord kind mid low) = BitVec.ofNat 16 mid := by
  apply BitVec.eq_of_toNat_eq
  rw [wordPort, toNat_field, toNat_packWord hk hm hl, BitVec.toNat_ofNat]
  omega

/-- T[27:8] of a packed word. -/
theorem wordAddr_packWord {kind mid low : Nat} (hk : kind < 16) (hm : mid < 2 ^ 20)
    (hl : low < 256) : wordAddr (packWord kind mid low) = BitVec.ofNat 20 mid := by
  apply BitVec.eq_of_toNat_eq
  rw [wordAddr, toNat_field, toNat_packWord hk hm hl, BitVec.toNat_ofNat]
  omega

/-- T[7:0] of a packed word. -/
theorem wordData_packWord {kind mid low : Nat} (hk : kind < 16) (hm : mid < 2 ^ 20)
    (hl : low < 256) : wordData (packWord kind mid low) = BitVec.ofNat 8 low := by
  apply BitVec.eq_of_toNat_eq
  rw [wordData, toNat_field, toNat_packWord hk hm hl, BitVec.toNat_ofNat]
  omega

/-- T[23:16] of a packed word. -/
theorem wordOp_packWord {kind mid low : Nat} (hk : kind < 16) (hm : mid < 2 ^ 20)
    (hl : low < 256) : wordOp (packWord kind mid low) = BitVec.ofNat 8 (mid / 2 ^ 8) := by
  apply BitVec.eq_of_toNat_eq
  rw [wordOp, toNat_field, toNat_packWord hk hm hl, BitVec.toNat_ofNat]
  omega

/-- T[15:8] of a packed word. -/
theorem wordArg_packWord {kind mid low : Nat} (hk : kind < 16) (hm : mid < 2 ^ 20)
    (hl : low < 256) : wordArg (packWord kind mid low) = BitVec.ofNat 8 mid := by
  apply BitVec.eq_of_toNat_eq
  rw [wordArg, toNat_field, toNat_packWord hk hm hl, BitVec.toNat_ofNat]
  omega

/-- Equal fields make equal words. -/
theorem packWord_fields (w : Word) :
    w = packWord (wordKind w).toNat (wordAddr w).toNat (wordData w).toNat := by
  apply BitVec.eq_of_toNat_eq
  have hw := w.isLt
  rw [toNat_packWord (wordKind w).isLt (wordAddr w).isLt (wordData w).isLt, wordKind, wordAddr,
    wordData, toNat_field, toNat_field, toNat_field]
  omega

/-! ### The family Format -/

namespace Laws.Format

/-- The KIND of a transaction's format (R110), and the bits its format makes zero: T[27:24] of a port
transaction or a call, T[7:0] of a read or a call. -/
def Statement (i : Instr) : Prop :=
  match i with
  | .mrd _ => wordKind (encode i).word = 0x3#4 ∧ wordData (encode i).word = 0
  | .mwr _ _ => wordKind (encode i).word = 0x4#4
  | .in3B4 => wordKind (encode i).word = 0x1#4 ∧ wordHigh (encode i).word = 0 ∧ wordData (encode i).word = 0
  | .out3B4 _ => wordKind (encode i).word = 0x2#4 ∧ wordHigh (encode i).word = 0
  | .in3B5 => wordKind (encode i).word = 0x1#4 ∧ wordHigh (encode i).word = 0 ∧ wordData (encode i).word = 0
  | .out3B5 _ => wordKind (encode i).word = 0x2#4 ∧ wordHigh (encode i).word = 0
  | .in3BA => wordKind (encode i).word = 0x1#4 ∧ wordHigh (encode i).word = 0 ∧ wordData (encode i).word = 0
  | .out3BA _ => wordKind (encode i).word = 0x2#4 ∧ wordHigh (encode i).word = 0
  | .in3C0 => wordKind (encode i).word = 0x1#4 ∧ wordHigh (encode i).word = 0 ∧ wordData (encode i).word = 0
  | .out3C0 _ => wordKind (encode i).word = 0x2#4 ∧ wordHigh (encode i).word = 0
  | .in3C1 => wordKind (encode i).word = 0x1#4 ∧ wordHigh (encode i).word = 0 ∧ wordData (encode i).word = 0
  | .out3C1 _ => wordKind (encode i).word = 0x2#4 ∧ wordHigh (encode i).word = 0
  | .in3C2 => wordKind (encode i).word = 0x1#4 ∧ wordHigh (encode i).word = 0 ∧ wordData (encode i).word = 0
  | .out3C2 _ => wordKind (encode i).word = 0x2#4 ∧ wordHigh (encode i).word = 0
  | .in3C3 => wordKind (encode i).word = 0x1#4 ∧ wordHigh (encode i).word = 0 ∧ wordData (encode i).word = 0
  | .out3C3 _ => wordKind (encode i).word = 0x2#4 ∧ wordHigh (encode i).word = 0
  | .in3C4 => wordKind (encode i).word = 0x1#4 ∧ wordHigh (encode i).word = 0 ∧ wordData (encode i).word = 0
  | .out3C4 _ => wordKind (encode i).word = 0x2#4 ∧ wordHigh (encode i).word = 0
  | .in3C5 => wordKind (encode i).word = 0x1#4 ∧ wordHigh (encode i).word = 0 ∧ wordData (encode i).word = 0
  | .out3C5 _ => wordKind (encode i).word = 0x2#4 ∧ wordHigh (encode i).word = 0
  | .in3C6 => wordKind (encode i).word = 0x1#4 ∧ wordHigh (encode i).word = 0 ∧ wordData (encode i).word = 0
  | .out3C6 _ => wordKind (encode i).word = 0x2#4 ∧ wordHigh (encode i).word = 0
  | .in3C7 => wordKind (encode i).word = 0x1#4 ∧ wordHigh (encode i).word = 0 ∧ wordData (encode i).word = 0
  | .out3C7 _ => wordKind (encode i).word = 0x2#4 ∧ wordHigh (encode i).word = 0
  | .in3C8 => wordKind (encode i).word = 0x1#4 ∧ wordHigh (encode i).word = 0 ∧ wordData (encode i).word = 0
  | .out3C8 _ => wordKind (encode i).word = 0x2#4 ∧ wordHigh (encode i).word = 0
  | .in3C9 => wordKind (encode i).word = 0x1#4 ∧ wordHigh (encode i).word = 0 ∧ wordData (encode i).word = 0
  | .out3C9 _ => wordKind (encode i).word = 0x2#4 ∧ wordHigh (encode i).word = 0
  | .in3CA => wordKind (encode i).word = 0x1#4 ∧ wordHigh (encode i).word = 0 ∧ wordData (encode i).word = 0
  | .out3CA _ => wordKind (encode i).word = 0x2#4 ∧ wordHigh (encode i).word = 0
  | .in3CB => wordKind (encode i).word = 0x1#4 ∧ wordHigh (encode i).word = 0 ∧ wordData (encode i).word = 0
  | .out3CB _ => wordKind (encode i).word = 0x2#4 ∧ wordHigh (encode i).word = 0
  | .in3CC => wordKind (encode i).word = 0x1#4 ∧ wordHigh (encode i).word = 0 ∧ wordData (encode i).word = 0
  | .out3CC _ => wordKind (encode i).word = 0x2#4 ∧ wordHigh (encode i).word = 0
  | .in3CD => wordKind (encode i).word = 0x1#4 ∧ wordHigh (encode i).word = 0 ∧ wordData (encode i).word = 0
  | .out3CD _ => wordKind (encode i).word = 0x2#4 ∧ wordHigh (encode i).word = 0
  | .in3CE => wordKind (encode i).word = 0x1#4 ∧ wordHigh (encode i).word = 0 ∧ wordData (encode i).word = 0
  | .out3CE _ => wordKind (encode i).word = 0x2#4 ∧ wordHigh (encode i).word = 0
  | .in3CF => wordKind (encode i).word = 0x1#4 ∧ wordHigh (encode i).word = 0 ∧ wordData (encode i).word = 0
  | .out3CF _ => wordKind (encode i).word = 0x2#4 ∧ wordHigh (encode i).word = 0
  | .in3D4 => wordKind (encode i).word = 0x1#4 ∧ wordHigh (encode i).word = 0 ∧ wordData (encode i).word = 0
  | .out3D4 _ => wordKind (encode i).word = 0x2#4 ∧ wordHigh (encode i).word = 0
  | .in3D5 => wordKind (encode i).word = 0x1#4 ∧ wordHigh (encode i).word = 0 ∧ wordData (encode i).word = 0
  | .out3D5 _ => wordKind (encode i).word = 0x2#4 ∧ wordHigh (encode i).word = 0
  | .in3DA => wordKind (encode i).word = 0x1#4 ∧ wordHigh (encode i).word = 0 ∧ wordData (encode i).word = 0
  | .out3DA _ => wordKind (encode i).word = 0x2#4 ∧ wordHigh (encode i).word = 0
  | .inPort _ => wordKind (encode i).word = 0x1#4 ∧ wordHigh (encode i).word = 0 ∧ wordData (encode i).word = 0
  | .outPort _ _ => wordKind (encode i).word = 0x2#4 ∧ wordHigh (encode i).word = 0
  | .callBind _ _ => wordKind (encode i).word = 0x8#4 ∧ wordHigh (encode i).word = 0 ∧ wordData (encode i).word = 0
  | .callRequestTimer _ _ _ => wordKind (encode i).word = 0x8#4 ∧ wordHigh (encode i).word = 0 ∧ wordData (encode i).word = 0
  | .callSetTimerActive _ _ => wordKind (encode i).word = 0x8#4 ∧ wordHigh (encode i).word = 0 ∧ wordData (encode i).word = 0
  | .callResetTimer _ _ => wordKind (encode i).word = 0x8#4 ∧ wordHigh (encode i).word = 0 ∧ wordData (encode i).word = 0
  | .callTick _ => wordKind (encode i).word = 0x8#4 ∧ wordHigh (encode i).word = 0 ∧ wordData (encode i).word = 0
  | .callWire => wordKind (encode i).word = 0x8#4 ∧ wordHigh (encode i).word = 0 ∧ wordData (encode i).word = 0
  | .callReset => wordKind (encode i).word = 0x8#4 ∧ wordHigh (encode i).word = 0 ∧ wordData (encode i).word = 0
  | .callStop => wordKind (encode i).word = 0x8#4 ∧ wordHigh (encode i).word = 0 ∧ wordData (encode i).word = 0
  | .callSetUpdateInterval _ _ => wordKind (encode i).word = 0x8#4 ∧ wordHigh (encode i).word = 0 ∧ wordData (encode i).word = 0
  | .callGetUpdateInterval _ => wordKind (encode i).word = 0x8#4 ∧ wordHigh (encode i).word = 0 ∧ wordData (encode i).word = 0
  | .callRequestIrq _ => wordKind (encode i).word = 0x8#4 ∧ wordHigh (encode i).word = 0 ∧ wordData (encode i).word = 0
  | .callSetIrq _ => wordKind (encode i).word = 0x8#4 ∧ wordHigh (encode i).word = 0 ∧ wordData (encode i).word = 0
  | .callClearIrq _ => wordKind (encode i).word = 0x8#4 ∧ wordHigh (encode i).word = 0 ∧ wordData (encode i).word = 0
  | .callInta => wordKind (encode i).word = 0x8#4 ∧ wordHigh (encode i).word = 0 ∧ wordData (encode i).word = 0
  | .callVgaUpdate => wordKind (encode i).word = 0x8#4 ∧ wordHigh (encode i).word = 0 ∧ wordData (encode i).word = 0
  | .callScreenSize => wordKind (encode i).word = 0x8#4 ∧ wordHigh (encode i).word = 0 ∧ wordData (encode i).word = 0

theorem ior_format (p : Port) :
    wordKind (iorWord p) = 0x1#4 ∧ wordHigh (iorWord p) = 0 ∧ wordData (iorWord p) = 0 := by
  have hp := p.isLt
  have hm : p.toNat < 2 ^ 20 := by omega
  refine ⟨wordKind_packWord (by omega) hm (by omega), ?_,
    wordData_packWord (by omega) hm (by omega)⟩
  rw [iorWord, wordHigh_packWord (by omega) hm (by omega), Nat.div_eq_of_lt hp]; rfl

theorem iow_format (p : Port) (d : Byte) :
    wordKind (iowWord p d) = 0x2#4 ∧ wordHigh (iowWord p d) = 0 := by
  have hp := p.isLt
  have hm : p.toNat < 2 ^ 20 := by omega
  refine ⟨wordKind_packWord (by omega) hm d.isLt, ?_⟩
  rw [iowWord, wordHigh_packWord (by omega) hm d.isLt, Nat.div_eq_of_lt hp]; rfl

theorem call_format (op arg : Byte) :
    wordKind (callWord op arg) = 0x8#4 ∧ wordHigh (callWord op arg) = 0 ∧
      wordData (callWord op arg) = 0 := by
  have ho := op.isLt
  have ha := arg.isLt
  have hm : op.toNat * 2 ^ 8 + arg.toNat < 2 ^ 20 := by omega
  refine ⟨wordKind_packWord (by omega) hm (by omega), ?_,
    wordData_packWord (by omega) hm (by omega)⟩
  rw [callWord, wordHigh_packWord (by omega) hm (by omega), Nat.div_eq_of_lt (by omega)]; rfl

theorem in3B4 : Statement .in3B4 := ior_format _
theorem out3B4 (data : Byte) : Statement (.out3B4 data) := iow_format _ _
theorem in3B5 : Statement .in3B5 := ior_format _
theorem out3B5 (data : Byte) : Statement (.out3B5 data) := iow_format _ _
theorem in3BA : Statement .in3BA := ior_format _
theorem out3BA (data : Byte) : Statement (.out3BA data) := iow_format _ _
theorem in3C0 : Statement .in3C0 := ior_format _
theorem out3C0 (data : Byte) : Statement (.out3C0 data) := iow_format _ _
theorem in3C1 : Statement .in3C1 := ior_format _
theorem out3C1 (data : Byte) : Statement (.out3C1 data) := iow_format _ _
theorem in3C2 : Statement .in3C2 := ior_format _
theorem out3C2 (data : Byte) : Statement (.out3C2 data) := iow_format _ _
theorem in3C3 : Statement .in3C3 := ior_format _
theorem out3C3 (data : Byte) : Statement (.out3C3 data) := iow_format _ _
theorem in3C4 : Statement .in3C4 := ior_format _
theorem out3C4 (data : Byte) : Statement (.out3C4 data) := iow_format _ _
theorem in3C5 : Statement .in3C5 := ior_format _
theorem out3C5 (data : Byte) : Statement (.out3C5 data) := iow_format _ _
theorem in3C6 : Statement .in3C6 := ior_format _
theorem out3C6 (data : Byte) : Statement (.out3C6 data) := iow_format _ _
theorem in3C7 : Statement .in3C7 := ior_format _
theorem out3C7 (data : Byte) : Statement (.out3C7 data) := iow_format _ _
theorem in3C8 : Statement .in3C8 := ior_format _
theorem out3C8 (data : Byte) : Statement (.out3C8 data) := iow_format _ _
theorem in3C9 : Statement .in3C9 := ior_format _
theorem out3C9 (data : Byte) : Statement (.out3C9 data) := iow_format _ _
theorem in3CA : Statement .in3CA := ior_format _
theorem out3CA (data : Byte) : Statement (.out3CA data) := iow_format _ _
theorem in3CB : Statement .in3CB := ior_format _
theorem out3CB (data : Byte) : Statement (.out3CB data) := iow_format _ _
theorem in3CC : Statement .in3CC := ior_format _
theorem out3CC (data : Byte) : Statement (.out3CC data) := iow_format _ _
theorem in3CD : Statement .in3CD := ior_format _
theorem out3CD (data : Byte) : Statement (.out3CD data) := iow_format _ _
theorem in3CE : Statement .in3CE := ior_format _
theorem out3CE (data : Byte) : Statement (.out3CE data) := iow_format _ _
theorem in3CF : Statement .in3CF := ior_format _
theorem out3CF (data : Byte) : Statement (.out3CF data) := iow_format _ _
theorem in3D4 : Statement .in3D4 := ior_format _
theorem out3D4 (data : Byte) : Statement (.out3D4 data) := iow_format _ _
theorem in3D5 : Statement .in3D5 := ior_format _
theorem out3D5 (data : Byte) : Statement (.out3D5 data) := iow_format _ _
theorem in3DA : Statement .in3DA := ior_format _
theorem out3DA (data : Byte) : Statement (.out3DA data) := iow_format _ _
theorem inPort (port : Port) : Statement (.inPort port) := ior_format _
theorem outPort (port : Port) (data : Byte) : Statement (.outPort port data) := iow_format _ _
theorem mrd (addr : PhysAddr) : Statement (.mrd addr) :=
  ⟨wordKind_packWord (by omega) addr.isLt (by omega), wordData_packWord (by omega) addr.isLt (by omega)⟩
theorem mwr (addr : PhysAddr) (data : Byte) : Statement (.mwr addr data) :=
  wordKind_packWord (by omega) addr.isLt data.isLt
theorem callBind (port : Port) (mref : ModuleRef) : Statement (.callBind port mref) := call_format _ _
theorem callRequestTimer (mref : ModuleRef) (interval : Int) (active : Bool) : Statement (.callRequestTimer mref interval active) := call_format _ _
theorem callSetTimerActive (mref : ModuleRef) (active : Bool) : Statement (.callSetTimerActive mref active) := call_format _ _
theorem callResetTimer (mref : ModuleRef) (interval : Int) : Statement (.callResetTimer mref interval) := call_format _ _
theorem callTick (tickUs : Nat) : Statement (.callTick tickUs) := call_format _ _
theorem callWire : Statement .callWire := call_format _ _
theorem callReset : Statement .callReset := call_format _ _
theorem callStop : Statement .callStop := call_format _ _
theorem callSetUpdateInterval (mref : ModuleRef) (interval : Int) : Statement (.callSetUpdateInterval mref interval) := call_format _ _
theorem callGetUpdateInterval (mref : ModuleRef) : Statement (.callGetUpdateInterval mref) := call_format _ _
theorem callRequestIrq (mref : ModuleRef) : Statement (.callRequestIrq mref) := call_format _ _
theorem callSetIrq (line : Byte) : Statement (.callSetIrq line) := call_format _ _
theorem callClearIrq (line : Byte) : Statement (.callClearIrq line) := call_format _ _
theorem callInta : Statement .callInta := call_format _ _
theorem callVgaUpdate : Statement .callVgaUpdate := call_format _ _
theorem callScreenSize : Statement .callScreenSize := call_format _ _

end Laws.Format

end Sys2Proof
end

