-- ==== Sys2Proof/Tests/Slice0.lean ====
section
/-! SUPPORT. Tests: expected results come from spec/95_test_vectors.md (the vector is named) or are worked
out by hand from the rule named. -/

namespace Sys2Proof.Tests

open Sys2Proof Sys2Proof.Machine

/-! ### Helpers -/

/-- The test instance of 95_test_vectors.md: IRQ_POOL = [1..16], tiles 16x24, grid 50x25, RAW, identity
DAC reads, no 320x240 signature, TRIGGER(1) = EDGE, VECTOR(n) = 0x07 + n; every draw is 0. -/
def testParams : Params where
  defaultIntervalUs := fun _ => ⟨1000, by decide⟩
  vgaUpdateIntervalUs := ⟨100, by decide⟩
  irqPoolRaw := List.finRange 16
  trigger := fun n => if n = 0 then .edge else .level
  vector := fun n => BitVec.ofNat 8 (8 + n.val)
  dacReadXform := id
  chain4Write := .raw
  xTileSize := ⟨16, by decide⟩
  yTileSize := ⟨24, by decide⟩
  gridCols := ⟨50, by decide⟩
  gridRows := ⟨25, by decide⟩
  sig320x240 := fun _ => false
  render := fun _ _ => []
  initVram := fun _ => 0
  drawByte := fun _ => 0
  updateCalls := fun _ => []
  deviceError := fun _ => false
  resetCalls := fun _ => []
  resetOk := fun _ => true

/-- Four modules: motherboard 0, pic 1, video 2, pit 3; the VGA's ports are bound. -/
def probe : State :=
  { State.powerOn with
    modules := [.mk .motherboard [] false false, .mk .pic [] false false,
      .mk .video [] false false, .mk .pit [] false false]
    bus := { portMap := vgaPorts.map fun p => (p.toNat, 2), timers := [], clock := 0 } }

/-- `probe` with another adapter. -/
def probeV (v : Vga) : State := probe.setVga v

/-- The adapter after reset. -/
def vga0 : Vga := vgaResetValue []

/-- An adapter in graphics mode with window A0000-AFFFF (Gc[6] = 0x05) and the given other registers. -/
def planar (gc : List Byte) (seq2 seq4 : Byte) (latch : Vector Byte 4) : Vga :=
  { vga0 with
    gc := Vector.ofFn fun i : Fin 9 => if i = 6 then 0x05 else gc.getD i 0
    seq := #v[0, 0, seq2, 0, seq4]
    latch := latch }

/-- `probe` with the given timers. -/
def probeT (ts : List Timer) : State := probe.setBus { probe.bus with timers := ts }

/-- `probe` with lines owned and raised as listed (`Line` value n is line n + 1). -/
def probeP (owned raised : List Line) : State :=
  probe.setPic
    { owner := Vector.ofFn fun n : Fin 16 => if owned.contains n then some (100 + n.val) else none
      raised := Vector.ofFn fun n : Fin 16 => raised.contains n }

/-- The next state of an outcome. -/
def nextOf (o : Host.Outcome State Fault Refusal) : Option State :=
  match o with
  | .next s => some s
  | .fault _ => none
  | .refused _ => none

/-- What a transaction returned. -/
def answered (o : Host.Outcome State Fault Refusal) : Option Result := (nextOf o).map State.result

/-- What a transaction logged. -/
def logged (o : Host.Outcome State Fault Refusal) : Option (List LogEvent) := (nextOf o).map State.log

/-! ### Well-formedness: one ill-formed term per check -/

theorem test_illFormed_inPort : (Instr.inPort 0x3C0).wellFormed = false := by decide
theorem test_illFormed_outPort : (Instr.outPort 0x3DA 0x55).wellFormed = false := by decide
theorem test_illFormed_mrd_below : (Instr.mrd 0x9FFFF).wellFormed = false := by decide
theorem test_illFormed_mwr_above : (Instr.mwr 0xC0000 0x55).wellFormed = false := by decide
theorem test_wellFormed_edges :
    [Instr.inPort 0x3B0, .outPort 0x3BB 1, .mrd 0xA0000, .mrd 0xBFFFF, .mwr 0xA0000 1,
      .mwr 0xBFFFF 1, .callSetIrq 0, .callSetIrq 0xFF].all Instr.wellFormed = true := by decide

/-! ### Decoding: every row's word, written out from 30_encoding.md R110, R112, R118 -/

theorem test_decode_portReads :
    [0x1003B400, 0x1003B500, 0x1003BA00, 0x1003C000, 0x1003C100, 0x1003C200, 0x1003C300,
      0x1003C400, 0x1003C500, 0x1003C600, 0x1003C700, 0x1003C800, 0x1003C900, 0x1003CA00,
      0x1003CB00, 0x1003CC00, 0x1003CD00, 0x1003CE00, 0x1003CF00, 0x1003D400, 0x1003D500,
      0x1003DA00].map (decodeTableWord 32) =
    [Instr.in3B4, .in3B5, .in3BA, .in3C0, .in3C1, .in3C2, .in3C3, .in3C4, .in3C5, .in3C6, .in3C7,
      .in3C8, .in3C9, .in3CA, .in3CB, .in3CC, .in3CD, .in3CE, .in3CF, .in3D4, .in3D5,
      .in3DA].map some := by decide

theorem test_decode_portWrites :
    [0x2003B401, 0x2003B502, 0x2003BA03, 0x2003C004, 0x2003C105, 0x2003C206, 0x2003C307,
      0x2003C408, 0x2003C509, 0x2003C60A, 0x2003C70B, 0x2003C80C, 0x2003C90D, 0x2003CA0E,
      0x2003CB0F, 0x2003CC80, 0x2003CD81, 0x2003CE82, 0x2003CF83, 0x2003D484, 0x2003D585,
      0x2003DAFF].map (decodeTableWord 32) =
    [Instr.out3B4 0x01, .out3B5 0x02, .out3BA 0x03, .out3C0 0x04, .out3C1 0x05, .out3C2 0x06,
      .out3C3 0x07, .out3C4 0x08, .out3C5 0x09, .out3C6 0x0A, .out3C7 0x0B, .out3C8 0x0C,
      .out3C9 0x0D, .out3CA 0x0E, .out3CB 0x0F, .out3CC 0x80, .out3CD 0x81, .out3CE 0x82,
      .out3CF 0x83, .out3D4 0x84, .out3D5 0x85, .out3DA 0xFF].map some := by decide

theorem test_decode_genericAndWindow :
    [0x10030000, 0x1003B000, 0x10FFFF00, 0x20030012, 0x2003DBA5, 0x3A005200, 0x3BFFFF00,
      0x4A0052FF, 0x4BFFFF81].map (decodeTableWord 32) =
    [Instr.inPort 0x300, .inPort 0x3B0, .inPort 0xFFFF, .outPort 0x300 0x12, .outPort 0x3DB 0xA5,
      .mrd 0xA0052, .mrd 0xBFFFF, .mwr 0xA0052 0xFF, .mwr 0xBFFFF 0x81].map some := by decide

theorem test_decode_calls :
    [0x80060000, 0x80070000, 0x80080000, 0x80110300, 0x80110000, 0x80111100, 0x80120200,
      0x8012FF00, 0x80130000, 0x80200000, 0x80210000].map (decodeTableWord 32) =
    [Instr.callWire, .callReset, .callStop, .callSetIrq 3, .callSetIrq 0, .callSetIrq 17,
      .callClearIrq 2, .callClearIrq 0xFF, .callInta, .callVgaUpdate, .callScreenSize].map some := by
  decide

/-- The calls with side operands (R118), each operand at a value of its own. -/
theorem test_decode_callsWithOperands :
    ([0x80010000#32, 0x80020000, 0x80030000, 0x80040000, 0x80050000, 0x80090000, 0x800A0000,
      0x80100000].map fun w => (decode (.mk w (.mk 0x3C4 7 (-5) true 60))).toOption) =
    [Instr.callBind 0x3C4 7, .callRequestTimer 7 (-5) true, .callSetTimerActive 7 true,
      .callResetTimer 7 (-5), .callTick 60, .callSetUpdateInterval 7 (-5), .callGetUpdateInterval 7,
      .callRequestIrq 7].map some := by decide

/-- The refused words of 95_test_vectors.md 2.1, with the check of R120 that refuses each. -/
theorem test_decode_refused :
    ([0x5003C400#32, 0x00000000, 0x1103C400, 0x1003C401, 0x3A000001, 0x80300000, 0x80100100,
      0x40000012, 0x3C000000, 0x30000000, 0x81060000, 0x80060001].map fun w =>
        match decode (.mk w (.mk 0 0 0 false 0)) with
        | .ok _ => none
        | .error e => some e) =
    [DecodeError.reservedKind, .reservedKind, .reservedHighBits, .reservedLowByte, .reservedLowByte,
      .unknownOp, .reservedArg, .addrOutOfRange, .addrOutOfRange, .addrOutOfRange, .reservedHighBits,
      .reservedLowByte].map some := by decide

/-- L1.10: `seq 0x02, 0x0F` assembles to 0x2003C402, 0x2003C50F. -/
theorem test_assembly :
    (pseudoSeq 0x02 0x0F).map (fun i => (encode i).word) = [0x2003C402, 0x2003C50F] ∧
    (pseudoOutw 0x3C4 0x0F02).map (fun i => (encode i).word) = [0x2003C402, 0x2003C50F] := by decide

/-- R125: the text. -/
theorem test_asmText :
    asmText (.out3C8 0xFF) = "out 0x3C8, 0xFF" ∧ asmText (.mrd 0xA0052) = "mrd 0xA0052" ∧
    asmText (.callSetIrq 3) = "call set_irq 0x3" := by decide +kernel

/-- R126: the expansions. -/
theorem test_pseudo :
    pseudoAtt 0x10 0x01 = [.in3DA, .out3C0 0x10, .out3C0 0x01] ∧
    pseudoMww 0xAFFFF 0x1234 = [.mwr 0xAFFFF 0x34, .mwr 0xB0000 0x12] ∧
    pseudoGc 5 2 = [.out3CE 5, .out3CF 2] ∧ pseudoCrtc 1 2 = [.out3D4 1, .out3D5 2] := by decide

/-! ### VGA ports (95_test_vectors.md 2.3) -/

/-- V1, V2, and the other stored registers at their reset value or at a written one. -/
theorem test_in3CC : answered (exec .in3CC probe) = some (.byte 0x01) := by decide
theorem test_in3C6 : answered (exec .in3C6 probe) = some (.byte 0xFF) := by decide
theorem test_out3C6 :
    (nextOf (exec (.out3C6 0x0F) probe)).map (·.vga.pelMask) = some 0x0F := by decide
/-- V3: a mono port while colour is selected. -/
theorem test_in3B4_mismatch :
    answered (exec .in3B4 probe) = some (.byte 0xFF) ∧
    logged (exec .in3B4 probe) = some [.modeMismatch 0x3B4] := by decide
/-- V15: the mono index port answers with Misc = 0x00. -/
theorem test_in3B4 :
    answered (exec .in3B4 (probeV { vga0 with misc := 0x00, crtcIndex := 0x0A })) =
      some (.byte 0x0A) := by decide
/-- V15: the colour port no longer answers. -/
theorem test_out3D4_mismatch :
    logged (exec (.out3D4 0x05) (probeV { vga0 with misc := 0x00 })) =
      some [.modeMismatch 0x3D4] := by decide
theorem test_out3D4 :
    (nextOf (exec (.out3D4 0x0E) probe)).map (·.vga.crtcIndex) = some 0x0E := by decide
theorem test_in3D4 :
    answered (exec .in3D4 (probeV { vga0 with crtcIndex := 0xEE })) = some (.byte 0xEE) := by decide
theorem test_out3B4 :
    (nextOf (exec (.out3B4 0x8E) (probeV { vga0 with misc := 0xFE }))).map (·.vga.crtcIndex) =
      some 0x8E := by decide
/-- V7: a protected register keeps its value. -/
theorem test_out3D5_protected :
    (nextOf (exec (.out3D5 0x4F) (probeV { vga0 with
      crtc := (vga0.crtc.set 0x11 0x80).set 1 0x27, crtcIndex := 1 }))).map
      (fun t => (t.vga.crtc[1], t.log)) = some (0x27, [.protectedIndex 1]) := by decide
/-- V8: bit 4 of register 0x07 is taken. -/
theorem test_out3D5_overflow :
    (nextOf (exec (.out3D5 0xFF) (probeV { vga0 with
      crtc := (vga0.crtc.set 0x11 0x80).set 7 0x02, crtcIndex := 7 }))).map
      (fun t => (t.vga.crtc[7], t.log)) = some (0x12, [.protectedIndex 7]) := by decide
/-- V6, V10 on the mono port. -/
theorem test_out3B5 :
    (nextOf (exec (.out3B5 0x07) (probeV { vga0 with misc := 0, crtcIndex := 0x18 }))).map
      (·.vga.crtc[0x18]) = some 0x07 ∧
    logged (exec (.out3B5 0x12) (probeV { vga0 with misc := 0, crtcIndex := 0x19 })) =
      some [.badIndex .crtc 0x19] := by decide
theorem test_in3D5 :
    answered (exec .in3D5 (probeV { vga0 with
      crtc := vga0.crtc.set 0x0E 0x07, crtcIndex := 0x0E })) = some (.byte 0x07) := by decide
theorem test_in3B5_badIndex :
    logged (exec .in3B5 (probeV { vga0 with misc := 0, crtcIndex := 0x19 })) =
      some [.badIndex .crtc 0x19] := by decide
/-- V5: the status read resets the flip-flop; V4: an inactive one does not. -/
theorem test_in3DA :
    (nextOf (exec .in3DA (probeV { vga0 with acFlip := .data }))).map (·.vga.acFlip) =
      some .address := by decide
theorem test_in3BA_inactive :
    (nextOf (exec .in3BA (probeV { vga0 with acFlip := .data }))).map
      (fun t => (t.vga.acFlip, t.result)) = some (.data, .byte 0xFF) := by decide
/-- V5: with every draw 0xFF only bits 0 and 3 are set. -/
theorem test_inputStatus1_bits :
    (inputStatus1Read { testParams with drawByte := fun _ => 0xFF } probe).2 = 0x09 := by decide
theorem test_out3DA :
    (nextOf (exec (.out3DA 0x03) probe)).map (·.vga.featureCtl) = some 0x03 := by decide
theorem test_out3BA :
    (nextOf (exec (.out3BA 0x02) (probeV { vga0 with misc := 0 }))).map (·.vga.featureCtl) =
      some 0x02 := by decide
theorem test_in3CA :
    answered (exec .in3CA (probeV { vga0 with featureCtl := 0x5A })) = some (.byte 0x5A) := by decide
/-- V11: the data phase stores and returns to the address phase. -/
theorem test_out3C0_data :
    (nextOf (exec (.out3C0 0x01) (probeV { vga0 with acFlip := .data, acIndex := 0x10 }))).map
      (fun t => (t.vga.ac[0x10], t.vga.acFlip)) = some (0x01, .address) := by decide
/-- V12: the address byte 0x35 gives index 0x15 and PAS 1. -/
theorem test_out3C0_address :
    (nextOf (exec (.out3C0 0x35) probe)).map
      (fun t => (t.vga.acIndex, t.vga.acPas, t.vga.acFlip)) = some (0x15, 1, .data) := by decide
/-- R191's example. -/
theorem test_in3C0 :
    answered (exec .in3C0 (probeV { vga0 with acIndex := 0x13, acPas := 1 })) =
      some (.byte 0x33) := by decide
/-- V13: the flip-flop stays. -/
theorem test_in3C1 :
    (nextOf (exec .in3C1 (probeV { vga0 with
      ac := vga0.ac.set 0x10 0x01, acIndex := 0x10, acFlip := .data }))).map
      (fun t => (t.result, t.vga.acFlip)) = some (.byte 0x01, .data) := by decide
/-- V14. -/
theorem test_out3C1 : logged (exec (.out3C1 0x55) probe) = some [.roPort 0x3C1 0x55] := by decide
/-- V25. -/
theorem test_in3C2 : (nextOf (exec .in3C2 probe)).map (·.draws) = some 1 := by decide
theorem test_out3C2 : (nextOf (exec (.out3C2 0x00) probe)).map (·.vga.misc) = some 0x00 := by decide
theorem test_out3C3 :
    (nextOf (exec (.out3C3 0x01) probe)).map (·.vga.subsysEnable) = some 0x01 := by decide
theorem test_in3C3 :
    answered (exec .in3C3 (probeV { vga0 with subsysEnable := 0x9C })) = some (.byte 0x9C) := by
  decide
theorem test_out3C4 :
    (nextOf (exec (.out3C4 0x02) probe)).map (·.vga.seqIndex) = some 0x02 := by decide
theorem test_in3C4 :
    answered (exec .in3C4 (probeV { vga0 with seqIndex := 0xF2 })) = some (.byte 0xF2) := by decide
/-- V19, V18. -/
theorem test_out3C5 :
    (nextOf (exec (.out3C5 0x05) (probeV { vga0 with seqIndex := 4 }))).map (·.vga.seq[4]) =
      some 0x05 ∧
    logged (exec (.out3C5 0x01) (probeV { vga0 with seqIndex := 5 })) =
      some [.badIndex .sequencer 5] := by decide
theorem test_in3C5 :
    answered (exec .in3C5 (probeV { vga0 with seq := vga0.seq.set 2 0x05, seqIndex := 2 })) =
      some (.byte 0x05) := by decide
/-- V24. -/
theorem test_out3C7 :
    (nextOf (exec (.out3C7 0x05) (probeV { vga0 with dacRPhase := 1 }))).map
      (fun t => (t.vga.dacRAddr, t.vga.dacRPhase, t.vga.dacState)) = some (0x05, 0, .read) := by
  decide
theorem test_in3C7 :
    answered (exec .in3C7 (probeV { vga0 with dacState := .read })) = some (.byte 0x03) ∧
    answered (exec .in3C7 probe) = some (.byte 0x00) := by decide
/-- V22. -/
theorem test_out3C8 :
    (nextOf (exec (.out3C8 0x40) (probeV { vga0 with dacWAddr := 5, dacWPhase := 1 }))).map
      (fun t => (t.vga.dacWAddr, t.vga.dacWPhase, t.vga.dacState)) = some (0x40, 0, .write) := by
  decide
theorem test_in3C8 :
    answered (exec .in3C8 (probeV { vga0 with dacWAddr := 0x41, dacRAddr := 0x99 })) =
      some (.byte 0x41) := by decide
/-- V21: the blue write of entry 255 wraps the address; V23: the read counter stays. -/
theorem test_out3C9 :
    (nextOf (exec (.out3C9 0x03) (probeV { vga0 with
      dacWAddr := 0xFF, dacWPhase := 2, dacRAddr := 0x10, dacRPhase := 1 }))).map
      (fun t => (paletteRead t.vga 0xFF 2, t.vga.dacWAddr, t.vga.dacWPhase, t.vga.dacRAddr,
        t.vga.dacRPhase)) = some (0x03, 0x00, 0, 0x10, 1) := by decide +kernel
/-- P1 step 9 with identity DAC_READ_XFORM. -/
theorem test_dacDataRead :
    (fun r : State × Byte => (r.2, r.1.vga.dacRAddr, r.1.vga.dacRPhase))
      (dacDataRead testParams (probeV { paletteWrite vga0 0x10 2 0x05 with
        dacRAddr := 0x10, dacRPhase := 2 })) = (0x05, 0x11, 0) := by decide +kernel
/-- V17. -/
theorem test_out3CA : logged (exec (.out3CA 0x01) probe) = some [.roPort 0x3CA 0x01] := by decide
theorem test_out3CC : logged (exec (.out3CC 0x01) probe) = some [.roPort 0x3CC 0x01] := by decide
/-- V16. -/
theorem test_in3CB :
    answered (exec .in3CB probe) = some (.byte 0xFF) ∧
    logged (exec .in3CB probe) = some [.noRegister 0x3CB] := by decide
theorem test_out3CB : logged (exec (.out3CB 1) probe) = some [.noRegister 0x3CB] := by decide
theorem test_in3CD :
    answered (exec .in3CD probe) = some (.byte 0xFF) ∧
    logged (exec .in3CD probe) = some [.noRegister 0x3CD] := by decide
theorem test_out3CD : logged (exec (.out3CD 1) probe) = some [.noRegister 0x3CD] := by decide
theorem test_out3CE :
    (nextOf (exec (.out3CE 0x09) probe)).map (·.vga.gcIndex) = some 0x09 := by decide
theorem test_in3CE :
    answered (exec .in3CE (probeV { vga0 with gcIndex := 0x77 })) = some (.byte 0x77) := by decide
/-- R230's example; V20. -/
theorem test_out3CF :
    (nextOf (exec (.out3CF 0x02) (probeV { vga0 with gcIndex := 5 }))).map
      (fun t => (t.vga.wm, t.vga.rm)) = some (2, false) ∧
    logged (exec (.out3CF 0xFF) (probeV { vga0 with gcIndex := 9 })) =
      some [.badIndex .graphics 9] := by decide
theorem test_in3CF :
    answered (exec .in3CF (probeV { vga0 with gc := vga0.gc.set 8 0xA5, gcIndex := 8 })) =
      some (.byte 0xA5) := by decide
/-- L1.9, P5 step 8. -/
theorem test_inPort :
    answered (exec (.inPort 0x300) probe) = some (.byte 0xFF) ∧
    logged (exec (.inPort 0x3B0) probe) = some [.unboundPort 0x3B0 none] := by decide
theorem test_outPort :
    logged (exec (.outPort 0x300 0x12) probe) = some [.unboundPort 0x300 (some 0x12)] := by decide

/-! ### Window (95_test_vectors.md 2.4, 2.5) -/

/-- M16: outside the window. -/
theorem test_mrd_outside :
    (nextOf (exec (.mrd 0xA0000) (probeV { vga0 with gc := vga0.gc.set 6 0x0C }))).map
      (fun t => (t.result, t.vga.latch)) = some (.byte 0xFF, vga0.latch) := by decide
/-- M18: read mode 0. -/
theorem test_mrd_mode0 :
    (fun r : State × Byte => (r.2, r.1.vga.latch))
      (memRead testParams 0xA0010 (probeV { planar [0, 0, 0, 0, 2] 0x0F 0 #v[9, 9, 9, 9] with
        planes := [(2 * 65536 + 0x10, 0x5A)] })) = (0x5A, #v[0, 0, 0x5A, 0]) := by decide
/-- M19, M20: read mode 1. -/
theorem test_readMode1 :
    (readInside testParams 5 { planar [0, 0, 5, 0, 0, 8, 0, 0x0F] 0x0F 0 #v[0, 0, 0, 0] with
      planes := [(5, 0xF0), (65541, 0x0F), (131077, 0xFF)] }).2 = 0xF0 ∧
    (readInside testParams 5 { planar [0, 0, 5, 0, 0, 8, 0, 0x01] 0x0F 0 #v[0, 0, 0, 0] with
      planes := [(5, 0xF0), (65541, 0x0F), (131077, 0xFF)] }).2 = 0xF0 := by decide
/-- M17: MMS 0 takes the offset modulo 65,536; the other windows' edges by R82. -/
theorem test_resolve :
    [0x9FFFF#20, 0xA0000, 0xB0010, 0xBFFFF].map vga0.resolve =
      [none, some 0, some 0x0010, some 0xFFFF] ∧
    [0xAFFFF#20, 0xB0000, 0xB7FFF, 0xB8000].map
      { vga0 with gc := vga0.gc.set 6 0x08 : Vga }.resolve =
      [none, some 0, some 0x7FFF, none] ∧
    [0xB7FFF#20, 0xB8000, 0xBFFFF].map { vga0 with gc := vga0.gc.set 6 0x0C : Vga }.resolve =
      [none, some 0, some 0x7FFF] ∧
    [0xAFFFF#20, 0xB0000].map { vga0 with gc := vga0.gc.set 6 0x04 : Vga }.resolve =
      [some 0xFFFF, none] := by decide
/-- M1, M2. -/
theorem test_writeMode0_rotate :
    writeMode (planar [0, 0, 0, 1, 0, 0, 0, 0, 0xFF] 0x0F 0 #v[7, 7, 7, 7]) 0x81 3 = 0xC0 ∧
    rotr8 0x01 3 = 0x20 ∧ rotr8 0x80 7 = 0x01 ∧ rotr8 0xA5 0 = 0xA5 := by decide
/-- M3, M4, M5, M6: the four data operations under bit mask 0xF0. -/
theorem test_writeMode0_operations :
    ([0x00#8, 0x08, 0x10, 0x18].map fun g =>
      writeMode (planar [0, 0, 0, g, 0, 0, 0, 0, 0xF0] 0x0F 0 #v[0x3C, 0x3C, 0x3C, 0x3C]) 0xAA 1) =
    [0xAC, 0x2C, 0xBC, 0x9C] := by decide
/-- M7: set/reset. -/
theorem test_writeMode0_setReset :
    (List.finRange 4).map (writeMode (planar [5, 3, 0, 0, 0, 0, 0, 0, 0x0F] 0x0F 0
      #v[0x11, 0x22, 0x33, 0x44]) 0xF0) = [0x1F, 0x20, 0x30, 0x40] := by decide
/-- M9, M10, M11, M12: the other write modes. -/
theorem test_writeModes123 :
    (List.finRange 4).map (writeMode (planar [0, 0, 0, 0, 0, 1] 0x0F 0 #v[1, 2, 3, 4]) 0x00) =
      [1, 2, 3, 4] ∧
    (List.finRange 4).map (writeMode (planar [0, 0, 0, 0, 0, 2, 0, 0, 0x0F] 0x0F 0
      #v[0xA0, 0xA0, 0xA0, 0xA0]) 0x05) = [0xAF, 0xA0, 0xAF, 0xA0] ∧
    (List.finRange 4).map (writeMode (planar [0, 0, 0, 0, 0, 2, 0, 0, 0xFF] 0x0F 0
      #v[1, 2, 3, 4]) 0xF9) = [0xFF, 0x00, 0x00, 0xFF] ∧
    (List.finRange 4).map (writeMode (planar [1, 0, 0, 0, 0, 3, 0, 0, 0x3C] 0x0F 0
      #v[0, 0, 0, 0]) 0xF0) = [0x30, 0x00, 0x00, 0x00] := by decide
/-- M14: only the enabled planes. -/
theorem test_mwr_mapMask :
    (nextOf (exec (.mwr 0xA0010 0x3C) (probeV
      (planar [0, 0, 0, 0, 0, 0, 0, 0, 0xFF] 0x05 0 #v[0, 0, 0, 0])))).map (·.vga.planes) =
      some [(0x10, 0x3C), (2 * 65536 + 0x10, 0x3C)] := by decide
/-- M15: outside the window; M13: Map Mask 0. -/
theorem test_mwr_nothing :
    (nextOf (exec (.mwr 0xA0000 0x12) (probeV { vga0 with gc := vga0.gc.set 6 0x08 }))).map
      (·.vga.planes) = some [] ∧
    (nextOf (exec (.mwr 0xA0000 0x12) (probeV (planar [] 0 0 #v[0, 0, 0, 0])))).map
      (fun t => (t.vga.planes, t.out)) = some ([], []) := by decide
/-- M22, M24: chain-four stores. -/
theorem test_chainFour :
    storesOf testParams (planar [] 0x00 0x08 #v[0, 0, 0, 0]) 7 0x3C = [(3, 4, 0x3C)] ∧
    storesOf { testParams with chain4Write := .pipeline }
      (planar [] 0x01 0x08 #v[0, 0, 0, 0]) 7 0x55 = [] := by decide
/-- M23: a chain-four read returns the addressed plane's latch. -/
theorem test_chainFourRead :
    (readInside testParams 7 { planar [] 0 0x08 #v[0, 0, 0, 0] with
      planes := [(3 * 65536 + 4, 0x3C)] }).2 = 0x3C ∧
    (readInside testParams 6 { planar [] 0 0x08 #v[0, 0, 0, 0] with
      planes := [(3 * 65536 + 4, 0x3C)] }).2 = 0x00 := by decide
/-- M26, M27: FontWrite. -/
theorem test_fontWrite :
    (nextOf (exec (.mwr 0xA0020 0x7E) (probeV
      (planar [0, 0, 0, 0, 0, 0, 0, 0, 0xFF] 0x04 0 #v[0, 0, 0, 0])))).map (·.out) =
      some [.fontWrite 0x20 0x7E] ∧
    (fontCheck testParams 0x4005 (probeV { vga0 with seq := vga0.seq.set 3 0x01 })).out =
      [.fontWrite 0x0005 0] := by decide

/-- The geometry of T1: line offset 80. -/
def geometry : Vga :=
  { planar [] 0x0F 0 #v[0, 0, 0, 0] with crtc := (vga0.crtc.set 0x13 0x28).set 0x17 0x40 }

/-- T1, T2, T3, T4, T5, T6, T9: the tiles (first, last) of the byte's pixels. -/
theorem test_tileSpan :
    tileSpan testParams geometry 0x52 = ((1, 1), (0, 0)) ∧
    tileSpan testParams { geometry with crtc := geometry.crtc.set 9 0x80 } 0x3C4 =
      ((2, 2), (1, 1)) ∧
    tileSpan testParams geometry 0x3C4 = ((2, 2), (0, 0)) ∧
    tileSpan testParams { geometry with
      crtc := geometry.crtc.set 0x14 0x40, seq := #v[0, 0, 0, 0, 8] } 0x0008 = ((1, 1), (0, 0)) ∧
    tileSpan { testParams with xTileSize := ⟨12, by decide⟩ } geometry 1 = ((0, 1), (0, 0)) ∧
    (tileSpan testParams { geometry with crtc := geometry.crtc.set 0x0C 1 } 0x50).2 = (34, 34) ∧
    tileSpan testParams { geometry with crtc := vga0.crtc.set 0x13 0x28 } 0xA0 =
      ((0, 0), (0, 0)) := by decide
/-- T1, T7, T8: which tiles stay clean. -/
theorem test_markTiles :
    (markTiles testParams 0x52 { geometry with clean := [⟨0, 0⟩, ⟨1, 0⟩, ⟨2, 0⟩] }).clean =
      [⟨0, 0⟩, ⟨2, 0⟩] ∧
    (markTiles testParams 0x52 { geometry with
      crtc := geometry.crtc.set 0x13 0, clean := [⟨0, 0⟩, ⟨2, 0⟩] }).clean = [] ∧
    (markTiles testParams 0x52 { geometry with
      gc := geometry.gc.set 6 0x04, clean := [⟨0, 0⟩, ⟨2, 0⟩] }).clean = [] := by decide

/-! ### Display (95_test_vectors.md 2.6) -/

/-- The geometry of S1: 640 x 480. -/
def crtcS1 : Vector Byte 25 := ((vga0.crtc.set 1 0x4F).set 0x12 0xDF).set 7 0x02

/-- S1, S2, S3, S4. -/
theorem test_screenSize :
    ({ vga0 with crtc := crtcS1 : Vga }).screenSize testParams = (640, 480) ∧
    ({ vga0 with crtc := (crtcS1.set 0x12 0x8F).set 7 0x1F : Vga }).screenSize testParams =
      (640, 400) ∧
    ({ vga0 with crtc := (crtcS1.set 0x12 0xFF).set 7 0x42 : Vga }).screenSize testParams =
      (640, 1024) ∧
    vga0.screenSize testParams = (8, 1) := by decide
/-- S5, S6. -/
theorem test_cursor :
    ({ vga0 with crtc := crtcS1.set 0x0F 0xA5 : Vga }).cursor = some (5, 2) ∧
    ({ vga0 with crtc := (crtcS1.set 0x0C 1).set 0x0F 0x50 : Vga }).cursor = none := by decide
/-- S7. -/
theorem test_update_skipped :
    (nextOf (exec .callVgaUpdate probe)).map (fun t => (t.out, t.vga.lastSize)) =
      some ([], none) := by decide
/-- S8 on a 3x2 grid of tiles 16x24 with a 24x30 screen: Resize, then the tiles with c < 2 and r < 2. -/
theorem test_graphicsUpdate :
    (vgaUpdate { testParams with gridCols := ⟨3, by decide⟩, gridRows := ⟨2, by decide⟩ }
      (probeV { geometry with
        crtc := (geometry.crtc.set 1 2).set 0x12 29, clean := [⟨0, 0⟩] })).out =
    [.resize 24 30, .tileRedraw ⟨0, 0⟩ [], .tileRedraw ⟨1, 0⟩ [], .tileRedraw ⟨0, 1⟩ [],
      .tileRedraw ⟨1, 1⟩ []] := by decide
/-- S9 on a 2x1 grid: one TextRedraw of 80 x 30, no resize, the tiles cleared. -/
theorem test_textUpdate :
    (fun t : State => (t.out, t.vga.clean))
      (vgaUpdate { testParams with gridCols := ⟨2, by decide⟩, gridRows := ⟨1, by decide⟩ }
        (probeV { vga0 with crtc := crtcS1.set 9 0x0F, lastSize := some (640, 480) })) =
    ([.textRedraw 0 (some (0, 0)) 80 30 []], [⟨0, 0⟩, ⟨1, 0⟩]) := by decide

/-! ### Bus (95_test_vectors.md 2.2) -/

/-- B13; L1.1. -/
theorem test_bind :
    (nextOf (exec (.callBind 0x3C4 1) probe)).map (fun t => (t.result, t.log)) =
      some (.bool false, [.bindConflict 0x3C4 2 1]) ∧
    (nextOf (exec (.callBind 0x3C4 2) probe)).map (fun t => (t.result, t.log)) =
      some (.bool true, []) ∧
    (nextOf (exec (.callBind 0x060 3) probe)).map (fun t => (t.result, t.bus.portOwner 0x060)) =
      some (.bool true, some 3) := by decide
/-- B1, B2. -/
theorem test_requestTimer :
    (requestTimer testParams 2 100 true probe).bus.timers = [⟨2, 100, true, 0⟩] ∧
    (requestTimer testParams 2 0 false (probeT [⟨2, 100, true, 70⟩, ⟨3, 5, true, 1⟩])).bus.timers =
      [⟨2, 1000, false, 0⟩, ⟨3, 5, true, 1⟩] := by decide
/-- B9, and R149's example. -/
theorem test_setTimerActive :
    logged (exec (.callSetTimerActive 3 true) probe) = some [.noTimer 3] ∧
    (nextOf (exec (.callSetTimerActive 2 false) (probeT [⟨2, 100, true, 70⟩]))).map
      (·.bus.timers) = some [⟨2, 100, false, 70⟩] := by decide
/-- B8, B10. -/
theorem test_resetTimer :
    (nextOf (exec (.callResetTimer 2 50) (probeT [⟨2, 100, true, 70⟩]))).map (·.bus.timers) =
      some [⟨2, 50, true, 0⟩] ∧
    (resetTimer testParams 2 (-5) (probeT [⟨2, 100, true, 70⟩])).bus.timers =
      [⟨2, 1000, true, 0⟩] := by decide
theorem test_setUpdateInterval :
    (nextOf (exec (.callSetUpdateInterval 2 50) (probeT [⟨2, 100, true, 70⟩]))).map
      (·.bus.timers) = some [⟨2, 50, true, 0⟩] := by decide
/-- B11, B12. -/
theorem test_getUpdateInterval :
    answered (exec (.callGetUpdateInterval 2) (probeT [⟨2, 50, true, 0⟩])) = some (.nat 50) ∧
    logged (exec (.callGetUpdateInterval 3) probe) = some [.noTimer 3] := by decide
/-- B3 (second tick), B4, B5: one firing at most, the surplus carried. -/
theorem test_tick :
    ((fun t : State => (t.bus.clock, t.bus.timers, t.out)) (tick testParams 60
      (probeT [⟨2, 100, true, 60⟩]))) = (60, [⟨2, 100, true, 20⟩], [.update 2]) ∧
    ((fun t : State => (t.bus.timers, t.out)) (tick testParams 250
      (probeT [⟨2, 100, true, 0⟩]))) = ([⟨2, 100, true, 150⟩], [.update 2]) ∧
    ((fun t : State => (t.bus.clock, t.bus.timers)) (tick testParams 0
      (probeT [⟨2, 100, true, 150⟩]))) = (0, [⟨2, 100, true, 50⟩]) := by decide
/-- B6, B7; and R403 in pit's update, reported between two of its calls: each logs, and STOP is due. -/
theorem test_tick_order :
    ((fun t : State => (t.log, t.live)) (tick
      { testParams with updateCalls := fun _ => [.setIrq 0, .reportError, .clearIrq 17] } 60
      (probeT [⟨3, 30, true, 0⟩]))) = ([.irqInvalid 0, .device 3, .irqInvalid 17], false) ∧
    ((fun t : State => (t.bus.timers, t.out)) (tick testParams 60
      (probeT [⟨0, 50, true, 0⟩, ⟨3, 30, true, 0⟩, ⟨1, 50, false, 40⟩]))) =
      ([⟨0, 50, true, 10⟩, ⟨3, 30, true, 30⟩, ⟨1, 50, false, 40⟩], [.update 0, .update 3]) := by
  decide
/-- L1.7 with one type missing. -/
theorem test_wire :
    (nextOf (exec .callWire { probe with modules :=
      [.mk .cpu [.pic, .memory] true false, .mk .pic [.cpu] false true] })).map
      (fun t => (t.modules.map Module.connected, t.log)) =
    some ([false, true], [.wiring 0 [.memory]]) := by decide

/-! ### PIC (95_test_vectors.md 2.7) -/

/-- I1. -/
theorem test_requestIrq :
    (requestIrq testParams 7 (probeP [0] [])).2 = some 1 ∧
    (requestIrq testParams 100 (probeP [0, 1] [])).2 = some 0 ∧
    (requestIrq testParams 7 (probeP (List.finRange 16) [])).1.log = [.irqExhausted 7] := by decide
/-- I2, I3, I4. -/
theorem test_setIrq :
    (nextOf (exec (.callSetIrq 1) (probeP [0] []))).map (·.pic.raised.get 0) = some true ∧
    logged (exec (.callSetIrq 4) (probeP [0] [])) = some [.irqInvalid 4] ∧
    logged (exec (.callSetIrq 17) (probeP [0] [])) = some [.irqInvalid 17] ∧
    (nextOf (exec (.callSetIrq 16) (probeP [15] []))).map (·.pic.raised.get 15) = some true := by
  decide
theorem test_clearIrq :
    (nextOf (exec (.callClearIrq 1) (probeP [0] [0]))).map (·.pic.raised.get 0) = some false ∧
    logged (exec (.callClearIrq 0) (probeP [0] [0])) = some [.irqInvalid 0] := by decide
/-- P4 steps 7 and 8: line 1 is EDGE, line 2 LEVEL. -/
theorem test_acknowledge :
    ((fun t : State => (t.result, t.pic.raised.get 0, t.pic.raised.get 1))
      (acknowledge testParams (probeP [0, 1] [0, 1]))) = (.byte 0x08, false, true) ∧
    ((fun t : State => (t.result, t.pic.raised.get 1))
      (acknowledge testParams (probeP [0, 1] [1]))) = (.byte 0x09, true) := by decide
/-- I7. -/
theorem test_inta_none :
    (nextOf (exec .callInta (probeP [0] []))).map State.faulted = some (some .ackNone) := by decide

/-! ### Lifecycle -/

/-- I8, B14: lines lowered, owners kept, ports bound again, the VGA's timer renewed. -/
theorem test_reset :
    ((fun r : State × Bool => (r.2, r.1.pic.raised.get 0, r.1.pic.owner.get 0,
        r.1.bus.portOwner 0x3DA, r.1.bus.portOwner 0x60, r.1.bus.timers))
      (resetOp testParams ((probeP [0] [0]).setBus
        { portMap := [(0x60, 3)], timers := [⟨2, 7, false, 5⟩], clock := 9 }))) =
    (true, false, some 100, some 2, none, [⟨2, 100, true, 0⟩]) := by decide +kernel
/-- R447's Misc and pel mask, and the memory kept; C8: pit's reset asks for a port of the VGA, so the
conflict is logged, the VGA keeps its port and RESET answers false. -/
theorem test_reset_registers :
    ((fun r : State × Bool => (r.1.vga.misc, r.1.vga.pelMask, r.1.vga.planes))
      (resetOp testParams (probeV { vga0 with misc := 0, pelMask := 3, planes := [(5, 9)] }))) =
      (0x01, 0xFF, [(5, 9)]) ∧
    ((fun r : State × Bool => (r.2, r.1.log, r.1.bus.portOwner 0x3C4))
      (resetOp { testParams with resetCalls := fun _ => [.bind 0x60 3, .bind 0x3C4 3] } probe)) =
      (false, [.bindConflict 0x3C4 2 3], some 2) := by decide +kernel
theorem test_stop : (nextOf (exec .callStop probe)).map State.live = some false := by decide
/-- R451: the interval in force after boot is the one the VGA's reset requests; the push before it found
no timer, which fails no step. -/
theorem test_boot_interval :
    (fun r : State × Bool => (r.1.bus.timers, r.1.log, r.1.live, r.2))
      (boot testParams ⟨[.mk .motherboard [] false false, .mk .pic [] false false,
        .mk .video [] false false], [(2, 5)], [], []⟩ State.powerOn) =
      ([⟨2, 100, true, 0⟩], [.noTimer 2], true, true) := by decide +kernel
/-- R450, R401: the PIC not right after the motherboard, a module reset that answers false and an
unreadable BIOS image each record E_CONFIG, in the steps' order, and the main loop does not start. -/
theorem test_boot_config :
    (fun r : State × Bool => (r.1.log, r.1.live, r.2))
      (boot { testParams with resetOk := fun _ => false }
        ⟨[.mk .motherboard [] false false, .mk .pit [] false false, .mk .pic [] false false], [],
          [.loadBios], []⟩ State.powerOn) =
      ([.config .createModules, .config .resetModules, .config .loadBios], false, false) := by
  decide +kernel

/-! ### Steps -/

/-- The first step after reset runs the word presented. -/
theorem test_step_first :
    (nextOf (step (State.reset.withFetchWord 32 0x1003CC00))).map State.result =
      some (.byte 0x01) := by decide
/-- What `step` stops on. -/
theorem test_step_stops :
    (match step probe with | .refused r => some r | _ => none) = some .noTransaction ∧
    (match step { probe with live := false } with | .refused r => some r | _ => none) =
      some .stopped ∧
    (match step (probe.withFetchWord 32 0x5003C400) with | .refused r => some r | _ => none) =
      some (.reserved .reservedKind) ∧
    (match step { probe with faulted := some .ackNone } with | .fault f => some f | _ => none) =
      some .ackNone := by decide

/-! ### Witnesses: concrete states and operands that meet every hypothesis of each obligation

One theorem per obligation that has hypotheses, one conjunct per clause, at the edges of its range. -/

/-- `probe` with mono addressing. -/
def mono : State := probeV { vga0 with misc := 0x00 }

/-- `probe`'s ports answer where the gate of its adapter passes. -/
theorem answers_all (v : Vga) (ps : List Port)
    (h : (ps.all fun p => vgaPorts.contains p && v.gatePasses p) = true) :
    ∀ p ∈ ps, (probeV v).VgaAnswers p := by
  have ho : (vgaPorts.all fun q => probe.bus.portOwner q == some 2) = true := by decide
  intro p hp
  have hg := List.all_eq_true.1 h p hp
  simp only [Bool.and_eq_true, List.contains_eq_mem, decide_eq_true_eq] at hg
  have ho' : probe.bus.portOwner p = some 2 := by simpa using List.all_eq_true.1 ho p hg.1
  exact ⟨2, ho', rfl, hg.2⟩

theorem probeV_answers (v : Vga) {p : Port}
    (h : ([p].all fun p => vgaPorts.contains p && v.gatePasses p) = true) :
    (probeV v).VgaAnswers p :=
  answers_all v [p] h p (List.mem_singleton.2 rfl)

theorem probe_answers {p : Port}
    (h : ([p].all fun p => vgaPorts.contains p && vga0.gatePasses p) = true) :
    probe.VgaAnswers p :=
  probeV_answers vga0 h

theorem mono_answers {p : Port}
    (h : ([p].all fun p =>
      vgaPorts.contains p && ({ vga0 with misc := 0x00 } : Vga).gatePasses p) = true) :
    mono.VgaAnswers p :=
  probeV_answers _ h

theorem witness_PlainRegisterWrites :
    (∀ p ∈ [0x3D4#16, 0x3C4, 0x3CE, 0x3DA, 0x3C3, 0x3C6], probe.VgaAnswers p) ∧
    (∀ p ∈ [0x3B4#16, 0x3BA], mono.VgaAnswers p) :=
  ⟨answers_all vga0 _ (by decide), answers_all { vga0 with misc := 0x00 } _ (by decide)⟩

theorem witness_PlainRegisterReads :
    (∀ p ∈ [0x3D4#16, 0x3C4, 0x3CE, 0x3C3, 0x3C6, 0x3C8, 0x3CA, 0x3CC], probe.VgaAnswers p) ∧
    mono.VgaAnswers 0x3B4 :=
  ⟨answers_all vga0 _ (by decide), mono_answers (by decide)⟩

theorem witness_StatusReads :
    probe.VgaAnswers 0x3DA ∧ mono.VgaAnswers 0x3BA ∧ probe.VgaAnswers 0x3C2 :=
  ⟨probe_answers (by decide), mono_answers (by decide),
    probe_answers (by decide)⟩

theorem witness_MiscWriteSwitchesGroups :
    probe.VgaAnswers 0x3C2 ∧
      (vgaPorts.all fun p => probe.bus.portOwner p == probe.bus.portOwner 0x3C2) = true :=
  ⟨probe_answers (by decide), by decide⟩

/-- A CRTC state: index, register 0x11, addressing. -/
def crtcAt (index prot misc : Byte) : State :=
  probeV { vga0 with misc := misc, crtcIndex := index, crtc := vga0.crtc.set 0x11 prot }

theorem witness_CrtcDataWrite :
    ((crtcAt 0x19 0 1).VgaAnswers 0x3D5 ∧ 0x18 < (crtcAt 0x19 0 1).vga.crtcIndex.toNat) ∧
    ((crtcAt 0x06 0x80 0).VgaAnswers 0x3B5 ∧
      (crtcAt 0x06 0x80 0).vga.crtc[0x11].getLsbD 7 = true ∧
      (crtcAt 0x06 0x80 0).vga.crtcIndex.toNat < 0x07) ∧
    ((crtcAt 0x07 0x80 1).VgaAnswers 0x3D5 ∧
      (crtcAt 0x07 0x80 1).vga.crtc[0x11].getLsbD 7 = true ∧
      (crtcAt 0x07 0x80 1).vga.crtcIndex = 0x07) ∧
    ((crtcAt 0x18 0x80 1).VgaAnswers 0x3D5 ∧ (crtcAt 0x18 0x80 1).vga.crtcIndex.toNat < 25 ∧
      0x07 < (crtcAt 0x18 0x80 1).vga.crtcIndex.toNat) ∧
    ((crtcAt 0x00 0x00 1).VgaAnswers 0x3D5 ∧ (crtcAt 0x00 0x00 1).vga.crtcIndex.toNat < 25 ∧
      (crtcAt 0x00 0x00 1).vga.crtc[0x11].getLsbD 7 = false) :=
  ⟨⟨probeV_answers _ (by decide), by decide⟩,
    ⟨probeV_answers _ (by decide), by decide, by decide⟩,
    ⟨probeV_answers _ (by decide), by decide, by decide⟩,
    ⟨probeV_answers _ (by decide), by decide, by decide⟩,
    ⟨probeV_answers _ (by decide), by decide, by decide⟩⟩

theorem witness_CrtcDataRead :
    ((crtcAt 0x18 0 1).VgaAnswers 0x3D5 ∧ (crtcAt 0x18 0 1).vga.crtcIndex.toNat < 25) ∧
    ((crtcAt 0x19 0 0).VgaAnswers 0x3B5 ∧ 0x18 < (crtcAt 0x19 0 0).vga.crtcIndex.toNat) :=
  ⟨⟨probeV_answers _ (by decide), by decide⟩,
    ⟨probeV_answers _ (by decide), by decide⟩⟩

/-- An Attribute Controller state: flip-flop and index. -/
def acAt (f : AcFlip) (i : BitVec 5) : State := probeV { vga0 with acFlip := f, acIndex := i }

theorem witness_AttributeWrite :
    ((acAt .address 0).VgaAnswers 0x3C0 ∧ (acAt .address 0).vga.acFlip = .address) ∧
    ((acAt .data 0x14).VgaAnswers 0x3C0 ∧ (acAt .data 0x14).vga.acFlip = .data ∧
      (acAt .data 0x14).vga.acIndex.toNat < 21) ∧
    ((acAt .data 0x15).VgaAnswers 0x3C0 ∧ (acAt .data 0x15).vga.acFlip = .data ∧
      0x14 < (acAt .data 0x15).vga.acIndex.toNat) :=
  ⟨⟨probeV_answers _ (by decide), by decide⟩,
    ⟨probeV_answers _ (by decide), by decide, by decide⟩,
    ⟨probeV_answers _ (by decide), by decide, by decide⟩⟩

theorem witness_AttributeReads :
    (acAt .data 0x14).VgaAnswers 0x3C0 ∧
    ((acAt .data 0x14).VgaAnswers 0x3C1 ∧ (acAt .data 0x14).vga.acIndex.toNat < 21) ∧
    ((acAt .data 0x15).VgaAnswers 0x3C1 ∧ 0x14 < (acAt .data 0x15).vga.acIndex.toNat) :=
  ⟨probeV_answers _ (by decide), ⟨probeV_answers _ (by decide), by decide⟩,
    ⟨probeV_answers _ (by decide), by decide⟩⟩

/-- A state with the Sequencer's and the Graphics Controller's index. -/
def indexAt (i : Byte) : State := probeV { vga0 with seqIndex := i, gcIndex := i }

theorem witness_IndexedBankData :
    ((indexAt 4).VgaAnswers 0x3C5 ∧ (indexAt 4).vga.seqIndex.toNat < 5) ∧
    ((indexAt 5).VgaAnswers 0x3C5 ∧ 0x04 < (indexAt 5).vga.seqIndex.toNat) ∧
    ((indexAt 8).VgaAnswers 0x3CF ∧ (indexAt 8).vga.gcIndex.toNat < 9) ∧
    ((indexAt 9).VgaAnswers 0x3CF ∧ 0x08 < (indexAt 9).vga.gcIndex.toNat) :=
  ⟨⟨probeV_answers _ (by decide), by decide⟩,
    ⟨probeV_answers _ (by decide), by decide⟩,
    ⟨probeV_answers _ (by decide), by decide⟩,
    ⟨probeV_answers _ (by decide), by decide⟩⟩

theorem witness_DacAddressAndState :
    probe.VgaAnswers 0x3C7 ∧ probe.VgaAnswers 0x3C8 ∧ probe.vga.dacState = .write ∧
    (probeV { vga0 with dacState := .read }).VgaAnswers 0x3C7 ∧
    (probeV { vga0 with dacState := .read }).vga.dacState = .read :=
  ⟨probe_answers (by decide), probe_answers (by decide), rfl,
    probeV_answers _ (by decide), rfl⟩

/-- Both phases of both counters. -/
theorem witness_DacDataWrite :
    probe.VgaAnswers 0x3C9 ∧ probe.vga.dacWPhase ≠ 2 ∧
    (probeV { vga0 with dacWAddr := 0xFF, dacWPhase := 2 }).VgaAnswers 0x3C9 ∧
    (probeV { vga0 with dacWAddr := 0xFF, dacWPhase := 2 }).vga.dacWPhase = 2 :=
  ⟨probe_answers (by decide), by decide, probeV_answers _ (by decide),
    by decide⟩

theorem witness_DacDataRead :
    probe.VgaAnswers 0x3C9 ∧ probe.vga.dacRPhase ≠ 2 ∧
    (probeV { vga0 with dacRAddr := 0xFF, dacRPhase := 2 }).VgaAnswers 0x3C9 ∧
    (probeV { vga0 with dacRAddr := 0xFF, dacRPhase := 2 }).vga.dacRPhase = 2 :=
  ⟨probe_answers (by decide), by decide, probeV_answers _ (by decide),
    by decide⟩

theorem witness_DacProperties :
    probe.VgaAnswers 0x3C7 ∧ probe.VgaAnswers 0x3C8 ∧ probe.VgaAnswers 0x3C9 :=
  ⟨probe_answers (by decide), probe_answers (by decide),
    probe_answers (by decide)⟩

theorem witness_ReadOnlyAndUnusedPorts :
    ∀ p ∈ [0x3C1#16, 0x3CA, 0x3CC, 0x3CB, 0x3CD], probe.VgaAnswers p :=
  answers_all vga0 _ (by decide)

theorem witness_InactiveGroupIsSilent :
    (probe.bus.portOwner 0x3BA = some 2 ∧ probe.isVideo 2 = true ∧
      probe.vga.misc.getLsbD 0 = true) ∧
    (mono.bus.portOwner 0x3DA = some 2 ∧ mono.isVideo 2 = true ∧
      mono.vga.misc.getLsbD 0 = false) := by decide

theorem witness_FlipFlopDiscipline :
    (probe.VgaAnswers 0x3DA ∧ probe.VgaAnswers 0x3C0 ∧ ((0x14#8).extractLsb' 0 5).toNat < 21) ∧
    (∃ t, exec (.out3C0 0x10) probe = .next t ∧ (Instr.out3C0 0x10).wellFormed = true ∧
      t.vga.acFlip ≠ probe.vga.acFlip) :=
  ⟨⟨probe_answers (by decide), probe_answers (by decide), by decide⟩,
    _, rfl, rfl, by decide⟩

theorem witness_UnboundPorts :
    probe.bus.portOwner 0x300 = none ∧ State.powerOn.bus.portOwner 0x3C4 = none := by decide

/-- `probe` with port 0x60 bound to pit and 0x3B0 to the VGA. -/
def bound : State :=
  probe.setBus { probe.bus with portMap := [(0x60, 3), (0x3B0, 2)] }

theorem witness_PortsWithoutARule :
    (bound.bus.portOwner 0x60 = some 3 ∧ bound.isVideo 3 = false) ∧
    (0x3B0#16 ∉ vgaPorts ∧ bound.bus.portOwner 0x3B0 = some 2 ∧ bound.isVideo 2 = true) := by
  decide

theorem witness_BindRule :
    probe.bus.portOwner 0x60 = none ∧ probe.bus.portOwner 0x3C4 = some 2 ∧ (2 : Nat) ≠ 3 := by
  decide

/-- Two timer entries, the second the VGA's. -/
def twoTimers : State := probeT [⟨3, 30, false, 7⟩, ⟨2, 100, true, 60⟩]

theorem witness_RequestTimerRule :
    (∀ e ∈ twoTimers.bus.timers, e.owner ≠ 0) ∧
    twoTimers.bus.timers = [⟨3, 30, false, 7⟩] ++ Timer.mk 2 100 true 60 :: [] ∧
    (∀ x ∈ [Timer.mk 3 30 false 7], x.owner ≠ 2) := by decide

theorem witness_TimerCalls :
    (∀ e ∈ twoTimers.bus.timers, e.owner ≠ 0) ∧
    twoTimers.bus.timers = [] ++ Timer.mk 3 30 false 7 :: [⟨2, 100, true, 60⟩] ∧
    (∀ x ∈ ([] : List Timer), x.owner ≠ 3) := by decide

theorem witness_TickWithoutFiring :
    ∀ e ∈ twoTimers.bus.timers, e.active = true → e.acc + 39 < e.interval := by decide

/-- Four entries: one inactive, one that a tick of 40 does not reach, the VGA's, due, and pit's. -/
def fourTimers : State :=
  probeT [⟨0, 10, false, 90⟩, ⟨1, 100, true, 59⟩, ⟨2, 100, true, 60⟩, ⟨3, 50, true, 0⟩]

/-- The VGA's entry due at its boundary, alone (tick 40); pit's, due as well (tick 50 reaches it too, and
entry 1 no more). -/
theorem witness_TickRunsTheVgaUpdate :
    (fourTimers.bus.timers = [⟨0, 10, false, 90⟩, ⟨1, 100, true, 59⟩] ++
        Timer.mk 2 100 true 60 :: [⟨3, 50, true, 0⟩] ∧ 100 ≤ 60 + 40 ∧
      (∀ x ∈ [Timer.mk 0 10 false 90, ⟨1, 100, true, 59⟩], x.active = true →
        x.acc + 40 < x.interval) ∧ fourTimers.isVideo 2 = true ∧
      (∀ x ∈ [Timer.mk 3 50 true 0], x.active = true → x.acc + 40 < x.interval)) ∧
    ((probeT [⟨3, 50, true, 10⟩]).bus.timers = [] ++ Timer.mk 3 50 true 10 :: [] ∧ 50 ≤ 10 + 40 ∧
      (probeT [⟨3, 50, true, 10⟩]).isVideo 3 = false) := by decide

/-- A tick of 50 makes entries 1, 2 and 3 due; with entry 1 out of the way, pit's follows the VGA's. -/
theorem witness_TickFiresInRegistrationOrder :
    (probeT [⟨2, 100, true, 60⟩, ⟨3, 50, true, 0⟩]).bus.timers =
      [⟨2, 100, true, 60⟩] ++ Timer.mk 3 50 true 0 :: [] ∧
    (true && decide (50 ≤ 0 + 50)) = true ∧ (true && decide (100 ≤ 60 + 50)) = true ∧
    (probeT [⟨2, 100, true, 60⟩, ⟨3, 50, true, 0⟩]).isVideo 2 = true := by decide

theorem witness_WhatOnlyOneTransactionChanges :
    (∃ t, exec (.callTick 5) probe = .next t) ∧ (∃ t, exec .callReset (probeP [0] [0]) = .next t) ∧
    (probeP [0] [0]).pic.owner.get 0 = some 100 :=
  ⟨⟨_, rfl⟩, ⟨_, rfl⟩, by decide⟩

/-- The adapter with another memory-map select. -/
def mmsAt (b : Byte) : Vga := { vga0 with gc := vga0.gc.set 6 b }

theorem witness_WindowResolution :
    ((mmsAt 0x00).gc[6].extractLsb' 2 2 = 0#2 ∧ (mmsAt 0x04).gc[6].extractLsb' 2 2 = 1#2 ∧
      (mmsAt 0x08).gc[6].extractLsb' 2 2 = 2#2 ∧ (mmsAt 0x0C).gc[6].extractLsb' 2 2 = 3#2) ∧
    ((probeV (mmsAt 0x04)).vga.resolve 0xB0000 = none ∧
      (probeV (mmsAt 0x0C)).vga.resolve 0xB7FFF = none) := by decide

theorem witness_WindowRead :
    ((probeV (planar [] 0x0F 0x08 #v[0, 0, 0, 0])).vga.resolve 0xAFFFF = some 0xFFFF ∧
      (planar [] 0x0F 0x08 #v[0, 0, 0, 0]).seq[4].getLsbD 3 = true) ∧
    ((probeV (planar [] 0x0F 0 #v[0, 0, 0, 0])).vga.resolve 0xA0000 = some 0 ∧
      (planar [] 0x0F 0 #v[0, 0, 0, 0]).seq[4].getLsbD 3 = false ∧
      (planar [] 0x0F 0 #v[0, 0, 0, 0]).gc[5].getLsbD 3 = false) ∧
    ((planar [0, 0, 5, 0, 0, 8, 0, 9] 0x0F 0 #v[0, 0, 0, 0]).gc[5].getLsbD 3 = true ∧
      (planar [0, 0, 5, 0, 0, 8, 0, 9] 0x0F 0 #v[0, 0, 0, 0]).gc[7].getLsbD 3 = true) := by
  decide

theorem witness_WriteModesBitByBit :
    ([0x00#8, 0x01, 0x02, 0x03].map fun g =>
      (planar [0, 0, 0, 0, 0, g] 0x0F 0 #v[0, 0, 0, 0]).gc[5].extractLsb' 0 2) =
    [0#2, 1#2, 2#2, 3#2] ∧ 7 < 8 := by decide

theorem witness_PlanarStore :
    (probeV (planar [] 0x05 0 #v[0, 0, 0, 0])).vga.resolve 0xAFFFF = some 0xFFFF ∧
    (probeV (planar [] 0x05 0 #v[0, 0, 0, 0])).vga.seq[4].getLsbD 3 = false := by decide

theorem witness_ChainFourStore :
    (probeV (planar [] 0x08 0x08 #v[0, 0, 0, 0])).vga.resolve 0xA0007 = some 7 ∧
    (probeV (planar [] 0x08 0x08 #v[0, 0, 0, 0])).vga.seq[4].getLsbD 3 = true := by decide

/-- Stored planar and chain-four writes, one that stores nothing, text and graphics mode, both line
offsets. -/
theorem witness_WriteMarksItsTiles :
    (geometry.resolve 0xA0052 = some 0x52 ∧ WriteStores geometry 0x52 ∧
      geometry.graphicsMode = true ∧ geometry.lineOffset ≠ 0) ∧
    ((planar [] 0x08 0x08 #v[0, 0, 0, 0]).resolve 0xA0007 = some 7 ∧
      WriteStores (planar [] 0x08 0x08 #v[0, 0, 0, 0]) 7 ∧
      (planar [] 0x08 0x08 #v[0, 0, 0, 0]).lineOffset = 0) ∧
    (¬WriteStores vga0 0 ∧ vga0.resolve 0xA0000 = some 0 ∧ vga0.graphicsMode = false) ∧
    InGrid ⟨0, 0⟩ := by
  refine ⟨⟨by decide, ⟨0, by decide⟩, by decide, by decide⟩,
    ⟨by decide, .inr (by decide), by decide⟩, ⟨?_, by decide, by decide⟩,
    Config.params.gridCols.pos, Config.params.gridRows.pos⟩
  show ¬∃ q : Fin 4, vga0.seq[2].getLsbD q = true
  decide

theorem witness_FontNotification :
    geometry.resolve 0xA1FFF = some 0x1FFF ∧ WriteStores geometry 0x1FFF ∧
    geometry.resolve 0xA2000 = some 0x2000 ∧ WriteStores geometry 0x2000 :=
  ⟨by decide, ⟨0, by decide⟩, by decide, ⟨0, by decide⟩⟩

theorem witness_MemoryAndLatchesHaveOneWriter :
    (∃ t, exec (.mrd 0xA0000) probe = .next t) ∧ (∃ t, exec (.mwr 0xA0000 1) probe = .next t) ∧
    ∃ t, exec .callStop probe = .next t :=
  ⟨⟨_, rfl⟩, ⟨_, rfl⟩, ⟨_, rfl⟩⟩

theorem witness_GraphicsUpdateRedrawsDirtyTiles : (probeV geometry).vga.graphicsMode = true := by
  decide

theorem witness_TextUpdateRedrawsTheScreen :
    (probe.vga.graphicsMode = false ∧ probe.vga.crtc[0x09].extractLsb' 0 5 = 0) ∧
    ((probeV { vga0 with crtc := vga0.crtc.set 9 0x01 }).vga.graphicsMode = false ∧
      (probeV { vga0 with crtc := vga0.crtc.set 9 0x01 }).vga.crtc[0x09].extractLsb' 0 5 ≠ 0) ∧
    InGrid ⟨0, 0⟩ :=
  ⟨by decide, by decide, Config.params.gridCols.pos, Config.params.gridRows.pos⟩

theorem witness_TileDirtyCleanCycle :
    (probeV geometry).vga.resolve 0xA0052 = some 0x52 ∧ WriteStores (probeV geometry).vga 0x52 ∧
    (probeV geometry).vga.graphicsMode = true ∧ (probeV geometry).vga.lineOffset ≠ 0 :=
  ⟨by decide, ⟨0, by decide⟩, by decide, by decide⟩

theorem witness_RequestIrqRule :
    ((probeP [3] []).pic.owner.get 3 = some 103 ∧
      ∀ k < (3 : Line), (probeP [3] []).pic.owner.get k ≠ some 103) ∧
    (∀ n : Line, (probeP [3] []).pic.owner.get n ≠ some 7) := by decide

theorem witness_SetAndClearIrq :
    ((0x10#8).toNat = (15 : Line).val + 1 ∧ (probeP [15] []).pic.owner.get 15 ≠ none) ∧
    ((0x00#8).toNat < 1 ∧ 16 < (0x11#8).toNat ∧
      ∃ n : Line, (0x01#8).toNat = n.val + 1 ∧ (probeP [15] []).pic.owner.get n = none) := by
  decide

theorem witness_AcknowledgeServesLowestLine :
    (probeP [2, 4] [2, 4]).pic.raised.get 4 = true ∧
    (probeP [2, 4] [2, 4]).pic.owner.get 4 ≠ none ∧
    (probeP [2, 4] [2, 4]).pic.raised.get 2 = true ∧
    (∀ j < (2 : Line), (probeP [2, 4] [2, 4]).pic.raised.get j = false) ∧
    (∀ n : Line, (probeP [2] []).pic.raised.get n = true →
      (probeP [2] []).pic.owner.get n = none) := by decide

/-- As many distinct modules as the pool has lines, and one more. -/
theorem witness_IrqUniqueness :
    (∀ n : Line, probe.pic.owner.get n = none) ∧
    (List.range Config.params.irqPool.length).Nodup ∧
    (List.range Config.params.irqPool.length).length = Config.params.irqPool.length ∧
    Config.params.irqPool.length ∉ List.range Config.params.irqPool.length :=
  ⟨by decide, List.nodup_range, List.length_range, by simp⟩

theorem witness_ResetRestoresTheVga : HasKind probe.modules .video :=
  ⟨Machine.Module.mk ModuleType.video [] false false, by decide, rfl⟩

theorem witness_ResetKeepsWhatItMust :
    HasKind probe.modules .pic ∧ (probeP [0] [0]).pic.owner.get 0 = some 100 :=
  ⟨⟨Machine.Module.mk ModuleType.pic [] false false, by decide, rfl⟩, by decide⟩

/-- `probe` with the block's own three modules. -/
def blockAlone : State :=
  { probe with modules := [.mk .motherboard [] false false, .mk .pic [] false false,
      .mk .video [] false false] }

/-- `blockAlone` after a RESET: the VGA has its timer, behind another module's. -/
def blockWarm : State :=
  blockAlone.setBus { blockAlone.bus with timers := [⟨0, 9, true, 4⟩, ⟨2, 5, false, 3⟩] }

/-- The first RESET, and a warm one. -/
theorem witness_ResetOfTheBlockAlone :
    (blockAlone.modules = [.mk .motherboard [] false false, .mk .pic [] false false,
      .mk .video [] false false] ∧ ∀ e ∈ blockAlone.bus.timers, e.owner ≠ 2) ∧
    (blockWarm.modules = blockAlone.modules ∧
      blockWarm.bus.timers = [⟨0, 9, true, 4⟩] ++ Timer.mk 2 5 false 3 :: [] ∧
      ∀ x ∈ [Timer.mk 0 9 true 4], x.owner ≠ 2) := by decide

/-- A plan for the block alone, and one whose creation order R450 forbids. -/
theorem witness_BootRecordsItsFailedSteps :
    (blockAlone.modules.map fun m => m.kind) = [.motherboard, .pic, .video] ∧
    State.powerOn.bus.timers = [] ∧
    creationOrderOk [.motherboard, .pit, .pic] = false ∧
    creationOrderOk [.motherboard, .pic, .video] = true := by decide

theorem witness_StopEndsTheRun : probe.faulted = none := rfl

theorem witness_FaultsAreForGood :
    ({ probe with faulted := some .ackNone } : State).faulted = some .ackNone ∧
    (∃ t, exec .callInta probe = .next t ∧ probe.faulted = none ∧ t.faulted ≠ none) :=
  ⟨rfl, _, rfl, rfl, by decide⟩

theorem witness_LogAndOutAreAppendOnly :
    (∃ t, exec (.out3CD 1) probe = .next t) ∧ ∃ t, exec .callVgaUpdate (probeV geometry) = .next t :=
  ⟨⟨_, rfl⟩, ⟨_, rfl⟩⟩

theorem witness_StepRunsTheDecodedTransaction :
    (probe.withFetchWord 32 0x1003CC00).Accepts ∧
    (probe.withFetchWord 32 0x1003CC00).input = [.mk 0x1003CC00 (.mk 0 0 0 false 0)] ∧
    decode (.mk 0x1003CC00 (.mk 0 0 0 false 0)) = .ok .in3CC :=
  ⟨⟨rfl, rfl⟩, by decide, by rfl⟩

theorem witness_RefusedWords :
    (probe.withFetchWord 32 0x5003C400).Accepts ∧
    (probe.withFetchWord 32 0x5003C400).input = [.mk 0x5003C400 (.mk 0 0 0 false 0)] ∧
    decode (.mk 0x5003C400 (.mk 0 0 0 false 0)) = .error .reservedKind :=
  ⟨⟨rfl, rfl⟩, by decide, by rfl⟩

theorem witness_DecodeOfEncode :
    [Instr.inPort 0x3C, .mwr 0xBFFFF 0xFF, .callRequestTimer 7 (-5) true].all
      Instr.wellFormed = true := by decide

theorem witness_EncodeOfDecode :
    decode (.mk 0x80020000 (.mk 0x3C4 7 (-5) true 60)) = .ok (.callRequestTimer 7 (-5) true) := by
  rfl

/-- A legal state other than the reset state, and a step it takes. -/
theorem witness_StepKeepsLegalStates :
    (probe.withFetchWord 32 0x1003DA00).Inv ∧
    ∃ t, step (probe.withFetchWord 32 0x1003DA00) = .next t := by
  refine ⟨⟨by decide, by decide, by decide, by decide, by decide, ?_, by decide⟩, _, rfl⟩
  intro a b m ha
  have h : ∀ n : Line, probe.pic.owner.get n = none := by decide
  have h' : probe.pic.owner.get a = some m := ha
  rw [h a] at h'
  cases h'

end Sys2Proof.Tests
end

section
/-! PROOF. The log and the outputs are append-only (10_state.md R47): the relation `HistoryGrows`, what
every shared operation does to it, and the same for every transaction. -/

namespace Sys2Proof.Machine

/-- The log and the outputs of `s` are prefixes of those of `t` (10_state.md R47). -/
def HistoryGrows (s t : State) : Prop := s.log <+: t.log ∧ s.out <+: t.out

@[simp] theorem HistoryGrows.refl (s : State) : HistoryGrows s s :=
  ⟨List.prefix_rfl, List.prefix_rfl⟩

theorem HistoryGrows.trans {s t u : State} (hst : HistoryGrows s t) (htu : HistoryGrows t u) :
    HistoryGrows s u :=
  ⟨hst.1.trans htu.1, hst.2.trans htu.2⟩

/-- Stepwise growth is growth over a whole list of steps. -/
theorem HistoryGrows.foldl {α : Type} {f : State → α → State}
    (hf : ∀ s x, HistoryGrows s (f s x)) (xs : List α) (s : State) :
    HistoryGrows s (xs.foldl f s) := by
  induction xs generalizing s with
  | nil => exact .refl s
  | cons x xs ih => exact (hf s x).trans (ih (f s x))

/-! ### The state updates -/

section Updates
variable {s t : State}

@[simp] theorem historyGrows_answer {r : Result} :
    HistoryGrows s (t.answer r) ↔ HistoryGrows s t := .rfl

@[simp] theorem historyGrows_countDraw : HistoryGrows s t.countDraw ↔ HistoryGrows s t := .rfl

@[simp] theorem historyGrows_setVga {v : Vga} :
    HistoryGrows s (t.setVga v) ↔ HistoryGrows s t := .rfl

@[simp] theorem historyGrows_setPic {p : Pic} :
    HistoryGrows s (t.setPic p) ↔ HistoryGrows s t := .rfl

@[simp] theorem historyGrows_setBus {b : Bus} :
    HistoryGrows s (t.setBus b) ↔ HistoryGrows s t := .rfl

@[simp] theorem historyGrows_setTimer {k : Nat} {e : Timer} :
    HistoryGrows s (t.setTimer k e) ↔ HistoryGrows s t := .rfl

@[simp] theorem historyGrows_stopOp : HistoryGrows s (stopOp t) ↔ HistoryGrows s t := .rfl

@[simp] theorem historyGrows_raiseFault {f : Fault} :
    HistoryGrows s (raiseFault f t) ↔ HistoryGrows s t := .rfl

@[simp] theorem HistoryGrows.record {e : LogEvent} (h : HistoryGrows s t) :
    HistoryGrows s (t.record e) :=
  ⟨h.1.trans (List.prefix_append ..), h.2⟩

@[simp] theorem HistoryGrows.emit {e : OutEvent} (h : HistoryGrows s t) :
    HistoryGrows s (t.emit e) :=
  ⟨h.1, h.2.trans (List.prefix_append ..)⟩

@[simp] theorem HistoryGrows.reportDeviceError {m : ModuleRef} (h : HistoryGrows s t) :
    HistoryGrows s (reportDeviceError m t) :=
  h.record (e := .device m)

end Updates

/-! ### Ports -/

theorem deviceStep_grows (C : Params) (m : ModuleRef) (s : State) :
    HistoryGrows s (deviceStep C m s) := by
  rcases deviceStep_cases C m s with h | h <;> simp [h]

theorem portRead_grows {C : Params} {p : Port} {h : State → State × Byte}
    (hh : ∀ s, HistoryGrows s (h s).1) (s : State) : HistoryGrows s (portRead C p h s).1 := by
  rcases portRead_cases C p h s with ⟨-, hr⟩ | ⟨-, hr⟩ | ⟨-, hr⟩ | ⟨m, -, -, hr⟩ <;> rw [hr]
  · exact (HistoryGrows.refl s).record
  · exact hh s
  · exact (HistoryGrows.refl s).record
  · exact deviceStep_grows C m s.countDraw

theorem portWrite_grows {C : Params} {p : Port} {d : Byte} {h : State → State}
    (hh : ∀ s, HistoryGrows s (h s)) (s : State) : HistoryGrows s (portWrite C p d h s) := by
  rcases portWrite_cases C p d h s with ⟨-, hw⟩ | ⟨-, hw⟩ | ⟨-, hw⟩ | ⟨m, -, -, hw⟩ <;> rw [hw]
  · exact (HistoryGrows.refl s).record
  · exact hh s
  · exact (HistoryGrows.refl s).record
  · exact deviceStep_grows C m s

@[simp] theorem drawByte_grows {C : Params} {s t : State} :
    HistoryGrows s (drawByte C t).1 ↔ HistoryGrows s t := .rfl

/-! An access to an indexed bank outside it logs the bad index (41_vga_ports.md R187, R192, R205, R231);
a protected CRTC write logs its index (R186). -/

theorem crtcDataRead_grows (C : Params) (s : State) : HistoryGrows s (crtcDataRead C s).1 := by
  unfold crtcDataRead
  split <;> simp

theorem acDataRead_grows (C : Params) (s : State) : HistoryGrows s (acDataRead C s).1 := by
  unfold acDataRead
  split <;> simp

theorem seqDataRead_grows (C : Params) (s : State) : HistoryGrows s (seqDataRead C s).1 := by
  unfold seqDataRead
  split <;> simp

theorem gcDataRead_grows (C : Params) (s : State) : HistoryGrows s (gcDataRead C s).1 := by
  unfold gcDataRead
  split <;> simp

theorem crtcDataWrite_grows (d : Byte) (s : State) : HistoryGrows s (crtcDataWrite d s) := by
  unfold crtcDataWrite
  split
  · simp only
    split <;> simp
  · simp

theorem acWrite_grows (d : Byte) (s : State) : HistoryGrows s (acWrite d s) := by
  unfold acWrite
  split
  · simp
  · split <;> simp

theorem seqDataWrite_grows (d : Byte) (s : State) : HistoryGrows s (seqDataWrite d s) := by
  unfold seqDataWrite
  split <;> simp

theorem gcDataWrite_grows (d : Byte) (s : State) : HistoryGrows s (gcDataWrite d s) := by
  unfold gcDataWrite
  split <;> simp

/-- Every read handler: the four bank reads and the unused ports may log, the others log nothing. -/
theorem vgaReadHandler_grows (C : Params) (p : Port) (s : State) :
    HistoryGrows s (vgaReadHandler C p s).1 := by
  unfold vgaReadHandler
  split
  case h_2 | h_21 => exact crtcDataRead_grows C s
  case h_5 => exact acDataRead_grows C s
  case h_9 => exact seqDataRead_grows C s
  case h_19 => exact gcDataRead_grows C s
  case h_15 | h_17 => exact (HistoryGrows.refl s).record
  all_goals exact .refl s

/-- Every write handler: the bank writes, the read-only and the unused ports may log, the others log
nothing. -/
theorem vgaWriteHandler_grows (p : Port) (d : Byte) (s : State) :
    HistoryGrows s (vgaWriteHandler p d s) := by
  unfold vgaWriteHandler
  split
  case h_2 | h_21 => exact crtcDataWrite_grows d s
  case h_4 => exact acWrite_grows d s
  case h_9 => exact seqDataWrite_grows d s
  case h_19 => exact gcDataWrite_grows d s
  case h_5 | h_14 | h_15 | h_16 | h_17 => exact (HistoryGrows.refl s).record
  all_goals exact .refl s

/-! ### Window -/

theorem memRead_grows (C : Params) (a : PhysAddr) (s : State) :
    HistoryGrows s (memRead C a s).1 := by
  rcases memRead_cases C a s with ⟨-, h⟩ | ⟨off, b, -, h⟩ <;> simp [h]

theorem memWrite_grows (C : Params) (a : PhysAddr) (d : Byte) (s : State) :
    HistoryGrows s (memWrite C a d s) := by
  rcases memWrite_cases C a d s with h | ⟨off, ws, f, -, -, -, h | ⟨k, b, h⟩⟩ <;> simp [h]

/-! ### Bus calls, interrupt lines and display -/

theorem bindPort_grows (p : Port) (m : ModuleRef) (s : State) :
    HistoryGrows s (bindPort p m s).1 := by
  rcases bindPort_cases p m s with ⟨-, h⟩ | ⟨-, h⟩ | ⟨o, -, -, h⟩ <;> simp [h]

theorem requestTimer_grows (C : Params) (m : ModuleRef) (i : Int) (a : Bool) (s : State) :
    HistoryGrows s (requestTimer C m i a s) := by
  rcases requestTimer_cases C m i a s with ⟨k, -, h⟩ | ⟨-, h⟩ <;> simp [h]

theorem updateTimer_grows (m : ModuleRef) (f : Timer → Timer) (s : State) :
    HistoryGrows s (updateTimer m f s) := by
  rcases updateTimer_cases m f s with ⟨k, -, h⟩ | ⟨-, h⟩ <;> simp [h]

theorem getUpdateInterval_grows (C : Params) (m : ModuleRef) (s : State) :
    HistoryGrows s (getUpdateInterval C m s).1 := by
  rcases getUpdateInterval_cases C m s with ⟨e, -, -, h⟩ | ⟨-, h⟩ <;> simp [h]

theorem wireOp_grows (s : State) : HistoryGrows s (wireOp s) :=
  ⟨List.prefix_append .., List.prefix_rfl⟩

theorem requestIrq_grows (C : Params) (m : ModuleRef) (s : State) :
    HistoryGrows s (requestIrq C m s).1 := by
  rcases requestIrq_cases C m s with ⟨n, -, h⟩ | ⟨n, -, -, h⟩ | ⟨-, -, h⟩ <;> simp [h]

theorem changeIrq_grows (b : Bool) (n : Byte) (s : State) : HistoryGrows s (changeIrq b n s) := by
  rcases changeIrq_cases b n s with ⟨k, -, h⟩ | ⟨-, h⟩ <;> simp [h]

theorem acknowledge_grows (C : Params) (s : State) : HistoryGrows s (acknowledge C s) := by
  rcases acknowledge_cases C s with ⟨-, h⟩ | ⟨n, -, -, h⟩
  · simp [h]
  · rcases clearIfEdge_cases C n s with ⟨-, hc⟩ | ⟨-, hc⟩ <;> simp [h, hc]

theorem vgaUpdate_grows (C : Params) (s : State) : HistoryGrows s (vgaUpdate C s) := by
  obtain ⟨es, ts, sz, h, -⟩ := vgaUpdate_change C s
  rw [h]
  exact ⟨List.prefix_rfl, List.prefix_append ..⟩

/-! ### TICK (R152) -/

theorem applyUpdateCall_grows (C : Params) (m : ModuleRef) (s : State) (c : UpdateCall) :
    HistoryGrows s (applyUpdateCall C m s c) := by
  cases c with
  | setIrq n => exact changeIrq_grows true n s
  | clearIrq n => exact changeIrq_grows false n s
  | requestIrq k => exact requestIrq_grows C k s
  | setTimerActive k a => exact updateTimer_grows k _ s
  | resetTimer k i => exact updateTimer_grows k _ s
  | requestTimer k i a => exact requestTimer_grows C k i a s
  | reportError => exact (HistoryGrows.refl s).reportDeviceError

theorem runUpdate_grows (C : Params) (m : ModuleRef) (s : State) :
    HistoryGrows s (runUpdate C m s) := by
  rcases runUpdate_cases C m s with ⟨-, h⟩ | ⟨-, h⟩ <;> rw [h]
  · exact vgaUpdate_grows C s
  · exact foreignUpdate_keeps (fun t c ht => ht.trans (applyUpdateCall_grows C m t c))
      (HistoryGrows.refl s)

theorem tickEntry_grows (C : Params) (d : Nat) (s : State) (k : Nat) :
    HistoryGrows s (tickEntry C d s k) := by
  rcases tickEntry_cases C d s k with h | ⟨e, -, -, -, h⟩ | ⟨e, -, -, -, h⟩ <;> rw [h]
  · exact .refl s
  · exact .refl s
  · exact HistoryGrows.trans (by simp) (runUpdate_grows C e.owner _)

theorem endIteration_grows (s : State) : HistoryGrows s (endIteration s) := by
  unfold endIteration
  split <;> simp

theorem tick_grows (C : Params) (d : Nat) (s : State) : HistoryGrows s (tick C d s) := by
  have hclock : HistoryGrows s (s.setBus { s.bus with clock := s.bus.clock + d }) := by simp
  exact (hclock.trans (.foldl (tickEntry_grows C d) _ _)).trans (endIteration_grows _)

/-! ### RESET (70_reset_and_hazards.md R442) -/

/-- A pass whose every step only appends, only appends. -/
theorem andAll_grows {fs : List (State → State × Bool)}
    (h : ∀ f ∈ fs, ∀ s, HistoryGrows s (f s).1) (s : State) : HistoryGrows s (andAll fs s).1 :=
  andAll_relates .refl (fun _ _ _ => .trans) h s

theorem bindPorts_grows (m : ModuleRef) (ps : List Port) (s : State) :
    HistoryGrows s (bindPorts m ps s).1 :=
  andAll_grows (List.forall_mem_map.2 fun p _ s => bindPort_grows p m s) s

theorem resetVideo_grows (C : Params) (m : ModuleRef) (s : State) :
    HistoryGrows s (resetVideo C m s).1 := by
  have hregs : HistoryGrows s (s.setVga (vgaResetValue s.vga.planes)) := by simp
  simp only [resetVideo]
  exact (hregs.trans (bindPorts_grows m vgaPorts _)).trans (requestTimer_grows ..)

theorem applyResetCall_grows (C : Params) (c : ResetCall) (s : State) :
    HistoryGrows s (applyResetCall C c s).1 := by
  cases c with
  | bind p m => exact bindPort_grows p m s
  | requestTimer m i a => exact requestTimer_grows C m i a s
  | requestIrq m => exact requestIrq_grows C m s

theorem resetForeign_grows (C : Params) (s : State) : HistoryGrows s (resetForeign C s).1 := by
  rw [resetForeign_eq]
  have hdraw : HistoryGrows s s.countDraw := by simp
  exact hdraw.trans
    (andAll_grows (List.forall_mem_map.2 fun c _ s => applyResetCall_grows C c s) _)

theorem resetModule_grows (C : Params) (k : ModuleType) (m : ModuleRef) (s : State) :
    HistoryGrows s (resetModule C k m s).1 := by
  rcases resetModule_cases C k m s with ⟨-, h⟩ | ⟨-, h⟩ | ⟨-, h⟩ | ⟨-, -, -, h⟩ <;> rw [h]
  · exact resetVideo_grows C m s
  · exact .refl s
  · exact .refl s
  · exact resetForeign_grows C s

theorem resetOp_grows (C : Params) (s : State) : HistoryGrows s (resetOp C s).1 := by
  have hports : HistoryGrows s (s.setBus { s.bus with portMap := [] }) := by simp
  exact hports.trans
    (andAll_grows (List.forall_mem_map.2 fun x _ s => resetModule_grows C x.1.kind x.2 s) _)

/-! ### Transactions -/

theorem execInPort_grows {p : Port} {s t : State} (h : execInPort p s = .next t) :
    HistoryGrows s t := by
  cases h
  exact portRead_grows (vgaReadHandler_grows Config.params p) s

theorem execOutPort_grows {p : Port} {d : Byte} {s t : State} (h : execOutPort p d s = .next t) :
    HistoryGrows s t := by
  cases h
  exact portWrite_grows (vgaWriteHandler_grows p d) s

/-- Every transaction only appends. A VGA port row is the generic row at its own port, so its case is
that row's. -/
theorem exec_grows {i : Instr} {s t : State} (h : exec i s = .next t) : HistoryGrows s t := by
  cases i with
  | in3B4 | in3B5 | in3BA | in3C0 | in3C1 | in3C2 | in3C3 | in3C4 | in3C5 | in3C6 | in3C7
  | in3C8 | in3C9 | in3CA | in3CB | in3CC | in3CD | in3CE | in3CF | in3D4 | in3D5 | in3DA
  | inPort => exact execInPort_grows h
  | out3B4 | out3B5 | out3BA | out3C0 | out3C1 | out3C2 | out3C3 | out3C4 | out3C5 | out3C6
  | out3C7 | out3C8 | out3C9 | out3CA | out3CB | out3CC | out3CD | out3CE | out3CF | out3D4
  | out3D5 | out3DA | outPort => exact execOutPort_grows h
  | mrd a => cases h; exact memRead_grows Config.params a s
  | mwr a d => cases h; exact memWrite_grows Config.params a d s
  | callBind p m => cases h; exact bindPort_grows p m s
  | callRequestTimer m i a => cases h; exact requestTimer_grows Config.params m i a s
  | callSetTimerActive m a => cases h; exact updateTimer_grows m _ s
  | callResetTimer m i | callSetUpdateInterval m i => cases h; exact updateTimer_grows m _ s
  | callTick d => cases h; exact tick_grows Config.params d s
  | callWire => cases h; exact wireOp_grows s
  | callReset => cases h; exact resetOp_grows Config.params s
  | callStop | callScreenSize => cases h; exact .refl s
  | callGetUpdateInterval m => cases h; exact getUpdateInterval_grows Config.params m s
  | callRequestIrq m => cases h; exact requestIrq_grows Config.params m s
  | callSetIrq n => cases h; exact changeIrq_grows true n s
  | callClearIrq n => cases h; exact changeIrq_grows false n s
  | callInta => cases h; exact acknowledge_grows Config.params s
  | callVgaUpdate => cases h; exact vgaUpdate_grows Config.params s

/-- Settles O52: `exec_grows`, over every transaction. -/
theorem logAndOutAreAppendOnly : Obligations.LogAndOutAreAppendOnly :=
  fun _ _ _ h => exec_grows h

end Sys2Proof.Machine
end

section
/-! PROOF. The step as the link from the stream to `exec` (00_scope.md R11). -/

namespace Sys2Proof.Machine

/-- Settles O53: an accepting state with an entry that decodes passes each guard of `step`. -/
theorem stepRunsTheDecodedTransaction : Obligations.StepRunsTheDecodedTransaction := by
  intro s x rest i haccepts hinput hdecode
  obtain ⟨hfaulted, hlive⟩ := haccepts
  simp only [step, hfaulted, hlive, hinput, hdecode, if_true]

end Sys2Proof.Machine
end

section
/-! PROOF. The legal states part by part (10_state.md R22, R23, R25, R41): `State.Inv` is one condition on
each of memory, port map, timers, lines and clean tiles, and the operations' edits of the timers and of the
lines keep theirs. -/

namespace Sys2Proof.Machine

/-! ### Timers -/

/-- The timer list's part of `State.Inv` (10_state.md R23). -/
def LegalTimers (ts : List Timer) : Prop :=
  (∀ e ∈ ts, 0 < e.interval) ∧ (ts.map Timer.owner).Nodup

/-- Changing one entry in place keeps the timers legal when it keeps the entry's owner. -/
theorem LegalTimers.set {ts : List Timer} (h : LegalTimers ts) {k : Nat} {e e' : Timer}
    (hk : ts[k]? = some e) (howner : e'.owner = e.owner) (hpos : 0 < e'.interval) :
    LegalTimers (ts.set k e') := by
  have howners : (ts.set k e').map Timer.owner = ts.map Timer.owner := by
    obtain ⟨hlt, rfl⟩ := List.getElem?_eq_some_iff.1 hk
    rw [List.map_set, howner, ← List.getElem_map Timer.owner (h := by simpa), List.set_getElem_self]
  refine ⟨fun x hx => ?_, howners ▸ h.2⟩
  rcases List.mem_or_eq_of_mem_set hx with hx | rfl
  · exact h.1 x hx
  · exact hpos

/-- A new last entry keeps the timers legal when its module has none. -/
theorem LegalTimers.append {ts : List Timer} (h : LegalTimers ts) {e : Timer}
    (hnew : ∀ x ∈ ts, x.owner ≠ e.owner) (hpos : 0 < e.interval) : LegalTimers (ts ++ [e]) := by
  refine ⟨fun x hx => ?_, ?_⟩
  · rcases List.mem_append.1 hx with hx | hx
    · exact h.1 x hx
    · rw [List.mem_singleton.1 hx]
      exact hpos
  · simpa [List.nodup_append, h.2] using hnew

/-! ### Lines -/

/-- The lines' part of `State.Inv` (10_state.md R25, 44_pic.md R321, R322). -/
def LegalLines (p : Pic) : Prop :=
  (∀ n : Line, p.raised.get n = true → (p.owner.get n).isSome = true) ∧
  ∀ (a b : Line) (m : ModuleRef), p.owner.get a = some m → p.owner.get b = some m → a = b

theorem get_set_line {α : Type} (v : Vector α 16) (n k : Line) (x : α) :
    (v.set n x).get k = if n = k then x else v.get k := by
  simp [Vector.get_eq_getElem, Vector.getElem_set, Fin.ext_iff]

/-- Giving a free line to a module that owns none keeps the lines legal. -/
theorem LegalLines.own {p : Pic} (h : LegalLines p) {n : Line} {m : ModuleRef}
    (hnone : ∀ k, p.owner.get k ≠ some m) :
    LegalLines { p with owner := p.owner.set n (some m) } := by
  obtain ⟨hraised, hone⟩ := h
  refine ⟨fun k hk => ?_, fun a b o ha hb => ?_⟩
  · rw [get_set_line]
    split
    · rfl
    · exact hraised k hk
  · rw [get_set_line] at ha hb
    split at ha <;> split at hb
    · simp_all
    · cases ha
      exact absurd hb (hnone b)
    · cases hb
      exact absurd ha (hnone a)
    · exact hone a b o ha hb

/-- Lowering a line, or raising an owned one, keeps the lines legal. -/
theorem LegalLines.setRaised {p : Pic} (h : LegalLines p) {n : Line} {b : Bool}
    (howned : b = true → (p.owner.get n).isSome = true) : LegalLines (p.setRaised n b) := by
  refine ⟨fun k hk => ?_, h.2⟩
  simp only [Pic.setRaised, get_set_line] at hk ⊢
  split at hk
  next hnk => exact hnk ▸ howned hk
  next => exact h.1 k hk

/-- Lowering every line keeps the lines legal. -/
theorem LegalLines.lowerAll {p : Pic} (h : LegalLines p) :
    LegalLines { p with raised := Vector.replicate 16 false } :=
  ⟨fun k hk => by simp at hk, h.2⟩

/-! ### The whole state -/

theorem State.inv_iff (s : State) :
    s.Inv ↔ Memory.wf s.vga.planes = true ∧ portMapWf s.bus.portMap = true ∧
      LegalTimers s.bus.timers ∧ LegalLines s.pic ∧ cleanWf Config.params s.vga.clean = true := by
  constructor
  · rintro ⟨hmem, hports, hpos, hone, hraised, howners, htiles⟩
    exact ⟨hmem, hports, ⟨hpos, hone⟩, ⟨hraised, howners⟩, htiles⟩
  · rintro ⟨hmem, hports, ⟨hpos, hone⟩, ⟨hraised, howners⟩, htiles⟩
    exact ⟨hmem, hports, hpos, hone, hraised, howners, htiles⟩

/-- No line owned, none raised: the power-on lines are legal. -/
theorem powerOn_legalLines : LegalLines State.powerOn.pic :=
  ⟨fun n hn => by simp [State.powerOn] at hn, fun a b m ha => by simp [State.powerOn] at ha⟩

theorem powerOn_inv : State.powerOn.Inv :=
  (State.inv_iff _).2 ⟨powerOn_memory_wf, rfl, ⟨by simp [State.powerOn], List.nodup_nil⟩,
    powerOn_legalLines, cleanWf_nil _⟩

/-- The one timer of the reset state is the VGA's, and its interval is a positive parameter. -/
theorem reset_legalTimers : LegalTimers State.reset.bus.timers := by
  refine ⟨fun e he => ?_, List.nodup_singleton _⟩
  rw [List.mem_singleton.1 he]
  exact Config.params.vgaUpdateIntervalUs.pos

theorem reset_inv : State.reset.Inv :=
  (State.inv_iff _).2 ⟨reset_memory_wf, by decide, reset_legalTimers, powerOn_legalLines,
    cleanWf_nil _⟩

/-- Settles O58: each part of the two states is legal. -/
theorem resetIsLegal : Obligations.ResetIsLegal := ⟨reset_inv, powerOn_inv⟩

end Sys2Proof.Machine
end

section
/-! PROOF. Which transaction may change what. `ChangesOnly A s t` says that the guarded parts of the state
outside `A` are the same in `s` and `t`, that no owned line lost its owner, and that `t` is legal when `s`
is. Every shared operation is shown once to be within its parts; `MayChange` is the table for the
transactions. -/

namespace Sys2Proof.Machine

/-- The parts of the state that only some transactions may change. -/
inductive Part where
  | clock | modules | fault | liveness | outputs | raised | latch | memory

/-- From `s` to `t` no guarded part changed but those of `A`; line owners and legality are kept. -/
structure ChangesOnly (A : Part → Prop) (s t : State) : Prop where
  clock : ¬A .clock → t.bus.clock = s.bus.clock
  modules : ¬A .modules → t.modules = s.modules
  fault : ¬A .fault → t.faulted = s.faulted
  liveness : ¬A .liveness → t.live = s.live
  outputs : ¬A .outputs → t.out = s.out
  raised : ¬A .raised → t.pic.raised = s.pic.raised
  latch : ¬A .latch → t.vga.latch = s.vga.latch
  memory : ¬A .memory → t.vga.planes = s.vga.planes
  owners : ∀ n m, s.pic.owner.get n = some m → t.pic.owner.get n = some m
  legal : s.Inv → t.Inv

section
variable {A : Part → Prop} {s t u : State}

theorem ChangesOnly.trans (hst : ChangesOnly A s t) (htu : ChangesOnly A t u) :
    ChangesOnly A s u where
  clock h := (htu.clock h).trans (hst.clock h)
  modules h := (htu.modules h).trans (hst.modules h)
  fault h := (htu.fault h).trans (hst.fault h)
  liveness h := (htu.liveness h).trans (hst.liveness h)
  outputs h := (htu.outputs h).trans (hst.outputs h)
  raised h := (htu.raised h).trans (hst.raised h)
  latch h := (htu.latch h).trans (hst.latch h)
  memory h := (htu.memory h).trans (hst.memory h)
  owners n m h := htu.owners n m (hst.owners n m h)
  legal h := htu.legal (hst.legal h)

/-! ### The state updates -/

/-- An update of the fields beside bus, lines, adapter and module list: log, result, stream and draws are
free, a fault, a stop and outputs are guarded. -/
theorem ChangesOnly.aside (hbus : t.bus = s.bus) (hpic : t.pic = s.pic) (hvga : t.vga = s.vga)
    (hmodules : t.modules = s.modules) (hfault : ¬A .fault → t.faulted = s.faulted)
    (hlive : ¬A .liveness → t.live = s.live) (hout : ¬A .outputs → t.out = s.out) :
    ChangesOnly A s t where
  clock _ := by rw [hbus]
  modules _ := hmodules
  fault := hfault
  liveness := hlive
  outputs := hout
  raised _ := by rw [hpic]
  latch _ := by rw [hvga]
  memory _ := by rw [hvga]
  owners _ _ h := by rwa [hpic]
  legal h := by
    rw [State.inv_iff] at h ⊢
    rwa [hbus, hpic, hvga]

@[simp] theorem ChangesOnly.refl (A : Part → Prop) (s : State) : ChangesOnly A s s :=
  .aside rfl rfl rfl rfl (fun _ => rfl) (fun _ => rfl) (fun _ => rfl)

theorem ChangesOnly.answer (h : ChangesOnly A s t) (r : Result) : ChangesOnly A s (t.answer r) :=
  h.trans (.aside rfl rfl rfl rfl (fun _ => rfl) (fun _ => rfl) (fun _ => rfl))

@[simp] theorem changesOnly_record (A : Part → Prop) (s : State) (e : LogEvent) :
    ChangesOnly A s (s.record e) :=
  .aside rfl rfl rfl rfl (fun _ => rfl) (fun _ => rfl) (fun _ => rfl)

@[simp] theorem changesOnly_countDraw (A : Part → Prop) (s : State) : ChangesOnly A s s.countDraw :=
  .aside rfl rfl rfl rfl (fun _ => rfl) (fun _ => rfl) (fun _ => rfl)

@[simp] theorem changesOnly_reportDeviceError (A : Part → Prop) (m : ModuleRef) (s : State) :
    ChangesOnly A s (reportDeviceError m s) :=
  .aside rfl rfl rfl rfl (fun _ => rfl) (fun _ => rfl) (fun _ => rfl)

theorem changesOnly_input (A : Part → Prop) (s : State) (is : List Transaction) :
    ChangesOnly A s { s with input := is } :=
  .aside rfl rfl rfl rfl (fun _ => rfl) (fun _ => rfl) (fun _ => rfl)

theorem changesOnly_emit (hA : A .outputs) (s : State) (e : OutEvent) :
    ChangesOnly A s (s.emit e) :=
  .aside rfl rfl rfl rfl (fun _ => rfl) (fun _ => rfl) (fun h => absurd hA h)

theorem changesOnly_stopOp (hA : A .liveness) (s : State) : ChangesOnly A s (stopOp s) :=
  .aside rfl rfl rfl rfl (fun _ => rfl) (fun h => absurd hA h) (fun _ => rfl)

theorem changesOnly_raiseFault (hA : A .fault) (f : Fault) (s : State) :
    ChangesOnly A s (raiseFault f s) :=
  .aside rfl rfl rfl rfl (fun h => absurd hA h) (fun _ => rfl) (fun _ => rfl)

theorem changesOnly_setBus {b : Bus} (hclock : ¬A .clock → b.clock = s.bus.clock)
    (hports : portMapWf s.bus.portMap = true → portMapWf b.portMap = true)
    (htimers : LegalTimers s.bus.timers → LegalTimers b.timers) : ChangesOnly A s (s.setBus b) where
  clock := hclock
  modules _ := rfl
  fault _ := rfl
  liveness _ := rfl
  outputs _ := rfl
  raised _ := rfl
  latch _ := rfl
  memory _ := rfl
  owners _ _ h := h
  legal h := by
    rw [State.inv_iff] at h ⊢
    obtain ⟨hmem, hp, ht, hlines, htiles⟩ := h
    exact ⟨hmem, hports hp, htimers ht, hlines, htiles⟩

theorem changesOnly_setPic {p : Pic} (hraised : ¬A .raised → p.raised = s.pic.raised)
    (howners : ∀ n m, s.pic.owner.get n = some m → p.owner.get n = some m)
    (hlegal : LegalLines s.pic → LegalLines p) : ChangesOnly A s (s.setPic p) where
  clock _ := rfl
  modules _ := rfl
  fault _ := rfl
  liveness _ := rfl
  outputs _ := rfl
  raised := hraised
  latch _ := rfl
  memory _ := rfl
  owners := howners
  legal h := by
    rw [State.inv_iff] at h ⊢
    obtain ⟨hmem, hports, htimers, hlines, htiles⟩ := h
    exact ⟨hmem, hports, htimers, hlegal hlines, htiles⟩

theorem changesOnly_setVga {v : Vga} (hlatch : ¬A .latch → v.latch = s.vga.latch)
    (hmemory : ¬A .memory → v.planes = s.vga.planes)
    (hwf : Memory.wf s.vga.planes = true → Memory.wf v.planes = true)
    (htiles : cleanWf Config.params s.vga.clean = true → cleanWf Config.params v.clean = true) :
    ChangesOnly A s (s.setVga v) where
  clock _ := rfl
  modules _ := rfl
  fault _ := rfl
  liveness _ := rfl
  outputs _ := rfl
  raised _ := rfl
  latch := hlatch
  memory := hmemory
  owners _ _ h := h
  legal h := by
    rw [State.inv_iff] at h ⊢
    obtain ⟨hm, hports, htimers, hlines, ht⟩ := h
    exact ⟨hwf hm, hports, htimers, hlines, htiles ht⟩

/-- A new adapter with the old latches, memory and clean tiles: a register write. -/
theorem changesOnly_registers (A : Part → Prop) {v : Vga} (hlatch : v.latch = s.vga.latch)
    (hmemory : v.planes = s.vga.planes) (hclean : v.clean = s.vga.clean) :
    ChangesOnly A s (s.setVga v) :=
  changesOnly_setVga (fun _ => hlatch) (fun _ => hmemory) (hmemory ▸ id) (hclean ▸ id)

/-! ### Port handlers (41_vga_ports.md): registers, log and draws -/

theorem deviceStep_changesOnly (C : Params) (m : ModuleRef) (s : State) :
    ChangesOnly A s (deviceStep C m s) := by
  rcases deviceStep_cases C m s with h | h <;> rw [h]
  · exact changesOnly_countDraw A s
  · exact (changesOnly_countDraw A s).trans (changesOnly_reportDeviceError A m _)

theorem portRead_changesOnly {C : Params} {p : Port} {h : State → State × Byte}
    (hh : ∀ s, ChangesOnly A s (h s).1) (s : State) : ChangesOnly A s (portRead C p h s).1 := by
  rcases portRead_cases C p h s with ⟨-, hr⟩ | ⟨-, hr⟩ | ⟨-, hr⟩ | ⟨m, -, -, hr⟩ <;> rw [hr]
  · exact changesOnly_record A s _
  · exact hh s
  · exact changesOnly_record A s _
  · exact (changesOnly_countDraw A s).trans (deviceStep_changesOnly C m _)

theorem portWrite_changesOnly {C : Params} {p : Port} {d : Byte} {h : State → State}
    (hh : ∀ s, ChangesOnly A s (h s)) (s : State) : ChangesOnly A s (portWrite C p d h s) := by
  rcases portWrite_cases C p d h s with ⟨-, hw⟩ | ⟨-, hw⟩ | ⟨-, hw⟩ | ⟨m, -, -, hw⟩ <;> rw [hw]
  · exact changesOnly_record A s _
  · exact hh s
  · exact changesOnly_record A s _
  · exact deviceStep_changesOnly C m s

@[simp] theorem drawByte_changesOnly (C : Params) (h : ChangesOnly A s t) :
    ChangesOnly A s (drawByte C t).1 :=
  h.trans (changesOnly_countDraw A t)

theorem crtcDataRead_changesOnly (C : Params) (s : State) :
    ChangesOnly A s (crtcDataRead C s).1 := by
  unfold crtcDataRead
  split <;> simp

theorem acDataRead_changesOnly (C : Params) (s : State) : ChangesOnly A s (acDataRead C s).1 := by
  unfold acDataRead
  split <;> simp

theorem seqDataRead_changesOnly (C : Params) (s : State) :
    ChangesOnly A s (seqDataRead C s).1 := by
  unfold seqDataRead
  split <;> simp

theorem gcDataRead_changesOnly (C : Params) (s : State) : ChangesOnly A s (gcDataRead C s).1 := by
  unfold gcDataRead
  split <;> simp

theorem crtcDataWrite_changesOnly (d : Byte) (s : State) :
    ChangesOnly A s (crtcDataWrite d s) := by
  unfold crtcDataWrite
  split
  next hlt =>
    have hstore : ChangesOnly A s (s.setVga { s.vga with
        crtc := crtcStore s.vga ⟨s.vga.crtcIndex.toNat, hlt⟩ d }) :=
      changesOnly_registers A rfl rfl rfl
    simp only
    split
    · exact hstore.trans (changesOnly_record A _ _)
    · exact hstore
  next => exact changesOnly_record A s _

theorem acWrite_changesOnly (d : Byte) (s : State) : ChangesOnly A s (acWrite d s) := by
  unfold acWrite
  split
  · exact changesOnly_registers A rfl rfl rfl
  · split
    · exact changesOnly_registers A rfl rfl rfl
    · have hflip : ChangesOnly A s (s.setVga { s.vga with acFlip := .address }) :=
        changesOnly_registers A rfl rfl rfl
      exact hflip.trans (changesOnly_record A _ _)

theorem seqDataWrite_changesOnly (d : Byte) (s : State) : ChangesOnly A s (seqDataWrite d s) := by
  unfold seqDataWrite
  split
  · exact changesOnly_registers A rfl rfl rfl
  · exact changesOnly_record A s _

theorem gcDataWrite_changesOnly (d : Byte) (s : State) : ChangesOnly A s (gcDataWrite d s) := by
  unfold gcDataWrite
  split
  · exact changesOnly_registers A rfl rfl rfl
  · exact changesOnly_record A s _

/-- Every read handler: Input Status 1 and the DAC data port move a register, the bank reads and the unused
ports may log, the others change nothing guarded. -/
theorem vgaReadHandler_changesOnly (C : Params) (p : Port) (s : State) :
    ChangesOnly A s (vgaReadHandler C p s).1 := by
  unfold vgaReadHandler
  split
  case h_2 | h_21 => exact crtcDataRead_changesOnly C s
  case h_3 | h_22 => exact drawByte_changesOnly C (changesOnly_registers A rfl rfl rfl)
  case h_5 => exact acDataRead_changesOnly C s
  case h_9 => exact seqDataRead_changesOnly C s
  case h_13 => exact changesOnly_registers A rfl rfl rfl
  case h_19 => exact gcDataRead_changesOnly C s
  case h_15 | h_17 => exact changesOnly_record A s _
  case h_6 | h_23 => exact changesOnly_countDraw A s
  all_goals exact .refl A s

/-- Every write handler: the bank writes by their own lemmas, the read-only and the unused ports log, a port
outside the 22 ignores the write, the others write a register. -/
theorem vgaWriteHandler_changesOnly (p : Port) (d : Byte) (s : State) :
    ChangesOnly A s (vgaWriteHandler p d s) := by
  unfold vgaWriteHandler
  split
  case h_2 | h_21 => exact crtcDataWrite_changesOnly d s
  case h_4 => exact acWrite_changesOnly d s
  case h_9 => exact seqDataWrite_changesOnly d s
  case h_19 => exact gcDataWrite_changesOnly d s
  case h_5 | h_14 | h_15 | h_16 | h_17 => exact changesOnly_record A s _
  case h_23 => exact .refl A s
  all_goals exact changesOnly_registers A rfl rfl rfl

/-! ### Window -/

/-- A window read changes latches alone (42_vga_memory_codec.md R252). -/
theorem memRead_changesOnly (hA : A .latch) (C : Params) (a : PhysAddr) (s : State) :
    ChangesOnly A s (memRead C a s).1 := by
  rcases memRead_cases C a s with ⟨-, h⟩ | ⟨off, b, -, h⟩ <;> rw [h]
  · exact .refl A s
  · exact changesOnly_setVga (fun h => absurd hA h) (fun _ => rfl) id id

/-- A window write stores, marks tiles and may notify of a font (42_vga_memory_codec.md R264). -/
theorem memWrite_changesOnly (hmem : A .memory) (hout : A .outputs) (C : Params) (a : PhysAddr)
    (d : Byte) (s : State) : ChangesOnly A s (memWrite C a d s) := by
  have hstore : ∀ ws f, ChangesOnly A s (s.setVga { s.vga with
      planes := storeAll ws s.vga.planes, clean := s.vga.clean.filter f }) := fun ws f =>
    changesOnly_setVga (fun _ => rfl) (fun h => absurd hmem h) (storeAll_wf ws) (cleanWf_filter f)
  rcases memWrite_cases C a d s with h | ⟨off, ws, f, -, -, -, h | ⟨k, b, h⟩⟩ <;> rw [h]
  · exact .refl A s
  · exact hstore ws f
  · exact (hstore ws f).trans (changesOnly_emit hout _ _)

/-! ### Bus calls, interrupt lines and display -/

theorem bindPort_changesOnly (p : Port) (m : ModuleRef) (s : State) :
    ChangesOnly A s (bindPort p m s).1 := by
  rcases bindPort_cases p m s with ⟨-, h⟩ | ⟨-, h⟩ | ⟨o, -, -, h⟩ <;> rw [h]
  · exact changesOnly_setBus (fun _ => rfl) (cellsWf_insert p.isLt m) id
  · exact .refl A s
  · exact changesOnly_record A s _

theorem requestTimer_changesOnly (C : Params) (m : ModuleRef) (i : Int) (a : Bool) (s : State) :
    ChangesOnly A s (requestTimer C m i a s) := by
  have hpos := normalizeInterval_pos C m i
  rcases requestTimer_cases C m i a s with ⟨k, hk, h⟩ | ⟨hnone, h⟩ <;> rw [h]
  · obtain ⟨hlt, howner⟩ := timerIndex_some hk
    exact changesOnly_setBus (fun _ => rfl) id fun hl =>
      hl.set (List.getElem?_eq_getElem hlt) howner.symm hpos
  · exact changesOnly_setBus (fun _ => rfl) id fun hl => hl.append (timerIndex_none hnone) hpos

/-- A call that keeps the entry's owner and a positive interval. -/
theorem updateTimer_changesOnly (m : ModuleRef) {f : Timer → Timer}
    (howner : ∀ e, (f e).owner = e.owner) (hpos : ∀ e, 0 < e.interval → 0 < (f e).interval)
    (s : State) : ChangesOnly A s (updateTimer m f s) := by
  rcases updateTimer_cases m f s with ⟨k, hk, h⟩ | ⟨-, h⟩ <;> rw [h]
  · obtain ⟨hlt, -⟩ := timerIndex_some hk
    refine changesOnly_setBus (fun _ => rfl) id fun hl => ?_
    simp only [List.modify_eq_set_get f hlt]
    exact hl.set (List.getElem?_eq_getElem hlt) (howner _) (hpos _ (hl.1 _ (List.getElem_mem hlt)))
  · exact changesOnly_record A s _

theorem setTimerActive_changesOnly (m : ModuleRef) (a : Bool) (s : State) :
    ChangesOnly A s (setTimerActive m a s) :=
  updateTimer_changesOnly m (f := fun e => { e with active := a }) (fun _ => rfl) (fun _ => id) s

theorem resetTimer_changesOnly (C : Params) (m : ModuleRef) (i : Int) (s : State) :
    ChangesOnly A s (resetTimer C m i s) :=
  updateTimer_changesOnly m
    (f := fun e => { e with interval := normalizeInterval C m i, acc := 0 })
    (fun _ => rfl) (fun _ _ => normalizeInterval_pos C m i) s

theorem getUpdateInterval_changesOnly (C : Params) (m : ModuleRef) (s : State) :
    ChangesOnly A s (getUpdateInterval C m s).1 := by
  rcases getUpdateInterval_cases C m s with ⟨e, -, -, h⟩ | ⟨-, h⟩ <;> rw [h]
  · exact .refl A s
  · exact changesOnly_record A s _

theorem wireOp_changesOnly (hA : A .modules) (s : State) : ChangesOnly A s (wireOp s) where
  clock _ := rfl
  modules h := absurd hA h
  fault _ := rfl
  liveness _ := rfl
  outputs _ := rfl
  raised _ := rfl
  latch _ := rfl
  memory _ := rfl
  owners _ _ h := h
  legal h := by
    rw [State.inv_iff] at h ⊢
    exact h

/-- A request takes only a free line, so every owner stays (44_pic.md R321). -/
theorem requestIrq_changesOnly (C : Params) (m : ModuleRef) (s : State) :
    ChangesOnly A s (requestIrq C m s).1 := by
  rcases requestIrq_cases C m s with ⟨n, -, h⟩ | ⟨n, hnone, hfree, h⟩ | ⟨-, -, h⟩ <;> rw [h]
  · exact .refl A s
  · refine changesOnly_setPic (fun _ => rfl) (fun k o ho => ?_) fun hl => hl.own (ownedLine_none hnone)
    obtain ⟨-, hn⟩ := freeLine_some hfree
    have hne : n ≠ k := by
      rintro rfl
      simp [hn] at ho
    simpa [get_set_line, hne] using ho
  · exact changesOnly_record A s _

theorem changeIrq_changesOnly (hA : A .raised) (b : Bool) (number : Byte) (s : State) :
    ChangesOnly A s (changeIrq b number s) := by
  rcases changeIrq_cases b number s with ⟨n, hn, h⟩ | ⟨-, h⟩ <;> rw [h]
  · obtain ⟨-, howned⟩ := ownedNumber_some hn
    exact changesOnly_setPic (fun h => absurd hA h) (fun _ _ => id) fun hl =>
      hl.setRaised fun _ => howned
  · exact changesOnly_record A s _

theorem acknowledge_changesOnly (hfault : A .fault) (hraised : A .raised) (C : Params)
    (s : State) : ChangesOnly A s (acknowledge C s) := by
  rcases acknowledge_cases C s with ⟨-, h⟩ | ⟨n, -, -, h⟩ <;> rw [h]
  · exact (changesOnly_raiseFault hfault .ackNone s).answer .unit
  · refine ChangesOnly.answer ?_ _
    rcases clearIfEdge_cases C n s with ⟨-, hc⟩ | ⟨-, hc⟩ <;> rw [hc]
    · exact changesOnly_setPic (fun h => absurd hraised h) (fun _ _ => id) fun hl =>
        hl.setRaised nofun
    · exact .refl A s

theorem vgaUpdate_changesOnly (hA : A .outputs) (s : State) :
    ChangesOnly A s (vgaUpdate Config.params s) := by
  obtain ⟨es, ts, sz, h, hclean⟩ := vgaUpdate_change Config.params s
  have hvga : ChangesOnly A s (s.setVga { s.vga with clean := ts, lastSize := sz }) :=
    changesOnly_setVga (fun _ => rfl) (fun _ => rfl) id hclean
  rw [h]
  exact hvga.trans
    (.aside rfl rfl rfl rfl (fun _ => rfl) (fun _ => rfl) (fun hn => absurd hA hn))

/-! ### TICK (40_bus.md R152, R153) -/

theorem applyUpdateCall_changesOnly (hA : A .raised) (C : Params) (m : ModuleRef) (s : State)
    (c : UpdateCall) : ChangesOnly A s (applyUpdateCall C m s c) := by
  cases c with
  | setIrq n => exact changeIrq_changesOnly hA true n s
  | clearIrq n => exact changeIrq_changesOnly hA false n s
  | requestIrq k => exact requestIrq_changesOnly C k s
  | setTimerActive k a => exact setTimerActive_changesOnly k a s
  | resetTimer k i => exact resetTimer_changesOnly C k i s
  | requestTimer k i a => exact requestTimer_changesOnly C k i a s
  | reportError => exact changesOnly_reportDeviceError A m s

theorem runUpdate_changesOnly (hout : A .outputs) (hraised : A .raised) (m : ModuleRef)
    (s : State) : ChangesOnly A s (runUpdate Config.params m s) := by
  rcases runUpdate_cases Config.params m s with ⟨-, h⟩ | ⟨-, h⟩ <;> rw [h]
  · exact vgaUpdate_changesOnly hout s
  · exact foreignUpdate_keeps (P := ChangesOnly A s)
      (fun t c ht => ht.trans (applyUpdateCall_changesOnly hraised Config.params m t c))
      (changesOnly_countDraw A s)

/-- A new accumulated time in an entry. -/
theorem setTimer_acc_changesOnly {k : Nat} {e : Timer} (hk : s.bus.timers[k]? = some e) (n : Nat) :
    ChangesOnly A s (s.setTimer k { e with acc := n }) :=
  changesOnly_setBus (fun _ => rfl) id fun hl =>
    hl.set hk rfl (hl.1 e (List.mem_of_getElem? hk))

theorem tickEntry_changesOnly (hout : A .outputs) (hraised : A .raised) (d : Nat) (s : State)
    (k : Nat) : ChangesOnly A s (tickEntry Config.params d s k) := by
  rcases tickEntry_cases Config.params d s k with h | ⟨e, he, -, -, h⟩ | ⟨e, he, -, -, h⟩ <;> rw [h]
  · exact .refl A s
  · exact setTimer_acc_changesOnly he _
  · exact ((setTimer_acc_changesOnly he _).trans (changesOnly_emit hout _ _)).trans
      (runUpdate_changesOnly hout hraised e.owner _)

theorem endIteration_changesOnly (hA : A .liveness) (s : State) :
    ChangesOnly A s (endIteration s) := by
  unfold endIteration
  split
  · exact changesOnly_stopOp hA s
  · exact .refl A s

/-- What follows a tick's advance of the clock: the entries, and a STOP for a reported error. -/
theorem tick_changesOnly (hout : A .outputs) (hraised : A .raised) (hlive : A .liveness)
    (d : Nat) (s : State) :
    ChangesOnly A (s.setBus { s.bus with clock := s.bus.clock + d }) (tick Config.params d s) := by
  have hentries : ∀ (ks : List Nat) (t : State),
      ChangesOnly A t (ks.foldl (tickEntry Config.params d) t) := fun ks => by
    induction ks with
    | nil => exact .refl A
    | cons k ks ih => exact fun t => (tickEntry_changesOnly hout hraised d t k).trans (ih _)
  exact (hentries _ _).trans (endIteration_changesOnly hlive _)

/-! ### RESET (70_reset_and_hazards.md R442) -/

theorem andAll_changesOnly {fs : List (State → State × Bool)}
    (h : ∀ f ∈ fs, ∀ s, ChangesOnly A s (f s).1) (s : State) : ChangesOnly A s (andAll fs s).1 :=
  andAll_relates (.refl A) (fun _ _ _ => .trans) h s

theorem bindPorts_changesOnly (m : ModuleRef) (ps : List Port) (s : State) :
    ChangesOnly A s (bindPorts m ps s).1 :=
  andAll_changesOnly (List.forall_mem_map.2 fun p _ => bindPort_changesOnly p m) s

theorem resetVideo_changesOnly (hA : A .latch) (C : Params) (m : ModuleRef) (s : State) :
    ChangesOnly A s (resetVideo C m s).1 := by
  have hregs : ChangesOnly A s (s.setVga (vgaResetValue s.vga.planes)) :=
    changesOnly_setVga (fun h => absurd hA h) (fun _ => rfl) id fun _ => cleanWf_nil _
  simp only [resetVideo]
  exact (hregs.trans (bindPorts_changesOnly m vgaPorts _)).trans (requestTimer_changesOnly ..)

theorem resetPic_changesOnly (hA : A .raised) (s : State) : ChangesOnly A s (resetPic s).1 :=
  changesOnly_setPic (fun h => absurd hA h) (fun _ _ => id) .lowerAll

theorem applyResetCall_changesOnly (C : Params) (c : ResetCall) (s : State) :
    ChangesOnly A s (applyResetCall C c s).1 := by
  cases c with
  | bind p m => exact bindPort_changesOnly p m s
  | requestTimer m i a => exact requestTimer_changesOnly C m i a s
  | requestIrq m => exact requestIrq_changesOnly C m s

theorem resetForeign_changesOnly (C : Params) (s : State) :
    ChangesOnly A s (resetForeign C s).1 := by
  rw [resetForeign_eq]
  exact (changesOnly_countDraw A s).trans
    (andAll_changesOnly (List.forall_mem_map.2 fun c _ => applyResetCall_changesOnly C c) _)

/-- A module's reset changes latches, when it is the VGA's, and raised lines, when it is the PIC's. -/
theorem resetModule_changesOnly (C : Params) {k : ModuleType} (hlatch : A .latch)
    (hraised : k = .pic → A .raised) (m : ModuleRef) (s : State) :
    ChangesOnly A s (resetModule C k m s).1 := by
  rcases resetModule_cases C k m s with ⟨-, h⟩ | ⟨hk, h⟩ | ⟨-, h⟩ | ⟨-, -, -, h⟩ <;> rw [h]
  · exact resetVideo_changesOnly hlatch C m s
  · exact resetPic_changesOnly (hraised hk) s
  · exact .refl A s
  · exact resetForeign_changesOnly C s

theorem resetOp_changesOnly (hlatch : A .latch) (hraised : A .raised) (C : Params) (s : State) :
    ChangesOnly A s (resetOp C s).1 := by
  have hports : ChangesOnly A s (s.setBus { s.bus with portMap := [] }) :=
    changesOnly_setBus (fun _ => rfl) (fun _ => rfl) id
  exact hports.trans (andAll_changesOnly
    (List.forall_mem_map.2 fun x _ => resetModule_changesOnly C hlatch (fun _ => hraised) x.2) _)

end

/-! ### Transactions -/

/-- The table of the guarded parts a transaction may change. -/
inductive MayChange : Instr → Part → Prop where
  | readLatch (a : PhysAddr) : MayChange (.mrd a) .latch
  | writeMemory (a : PhysAddr) (d : Byte) : MayChange (.mwr a d) .memory
  | writeOutputs (a : PhysAddr) (d : Byte) : MayChange (.mwr a d) .outputs
  | tickClock (d : Nat) : MayChange (.callTick d) .clock
  | tickRaised (d : Nat) : MayChange (.callTick d) .raised
  | tickOutputs (d : Nat) : MayChange (.callTick d) .outputs
  | tickLiveness (d : Nat) : MayChange (.callTick d) .liveness
  | wireModules : MayChange .callWire .modules
  | resetLatch : MayChange .callReset .latch
  | resetRaised : MayChange .callReset .raised
  | stopLiveness : MayChange .callStop .liveness
  | setRaised (n : Byte) : MayChange (.callSetIrq n) .raised
  | clearRaised (n : Byte) : MayChange (.callClearIrq n) .raised
  | intaRaised : MayChange .callInta .raised
  | intaFault : MayChange .callInta .fault
  | updateOutputs : MayChange .callVgaUpdate .outputs

theorem execInPort_changesOnly {A : Part → Prop} {p : Port} {s t : State}
    (h : execInPort p s = .next t) : ChangesOnly A s t := by
  cases h
  exact (portRead_changesOnly (vgaReadHandler_changesOnly Config.params p) s).answer _

theorem execOutPort_changesOnly {A : Part → Prop} {p : Port} {d : Byte} {s t : State}
    (h : execOutPort p d s = .next t) : ChangesOnly A s t := by
  cases h
  exact (portWrite_changesOnly (vgaWriteHandler_changesOnly p d) s).answer _

theorem execCallTick_changesOnly {d : Nat} {s t : State} (h : execCallTick d s = .next t) :
    ChangesOnly (MayChange (.callTick d)) s t := by
  cases h
  have hclock : ChangesOnly (MayChange (.callTick d)) s
      (s.setBus { s.bus with clock := s.bus.clock + d }) :=
    changesOnly_setBus (fun h => absurd (.tickClock d) h) id id
  exact (hclock.trans
    (tick_changesOnly (.tickOutputs d) (.tickRaised d) (.tickLiveness d) d s)).answer _

/-- Every transaction stays within its rows of `MayChange`. A VGA port row is the generic row at its own
port, so its case is that row's. -/
theorem exec_changesOnly {i : Instr} {s t : State} (h : exec i s = .next t) :
    ChangesOnly (MayChange i) s t := by
  cases i with
  | in3B4 | in3B5 | in3BA | in3C0 | in3C1 | in3C2 | in3C3 | in3C4 | in3C5 | in3C6 | in3C7
  | in3C8 | in3C9 | in3CA | in3CB | in3CC | in3CD | in3CE | in3CF | in3D4 | in3D5 | in3DA
  | inPort => exact execInPort_changesOnly h
  | out3B4 | out3B5 | out3BA | out3C0 | out3C1 | out3C2 | out3C3 | out3C4 | out3C5 | out3C6
  | out3C7 | out3C8 | out3C9 | out3CA | out3CB | out3CC | out3CD | out3CE | out3CF | out3D4
  | out3D5 | out3DA | outPort => exact execOutPort_changesOnly h
  | mrd a => cases h; exact (memRead_changesOnly (.readLatch a) _ a s).answer _
  | mwr a d =>
    cases h
    exact (memWrite_changesOnly (.writeMemory a d) (.writeOutputs a d) _ a d s).answer _
  | callBind p m => cases h; exact (bindPort_changesOnly p m s).answer _
  | callRequestTimer m i a => cases h; exact (requestTimer_changesOnly _ m i a s).answer _
  | callSetTimerActive m a => cases h; exact (setTimerActive_changesOnly m a s).answer _
  | callResetTimer m i | callSetUpdateInterval m i =>
    cases h; exact (resetTimer_changesOnly _ m i s).answer _
  | callTick d => exact execCallTick_changesOnly h
  | callWire => cases h; exact (wireOp_changesOnly .wireModules s).answer _
  | callReset =>
    cases h
    exact (resetOp_changesOnly .resetLatch .resetRaised _ s).answer _
  | callStop => cases h; exact (changesOnly_stopOp .stopLiveness s).answer _
  | callScreenSize => cases h; exact (ChangesOnly.refl _ s).answer _
  | callGetUpdateInterval m => cases h; exact (getUpdateInterval_changesOnly _ m s).answer _
  | callRequestIrq m => cases h; exact (requestIrq_changesOnly _ m s).answer _
  | callSetIrq n => cases h; exact (changeIrq_changesOnly (.setRaised n) true n s).answer _
  | callClearIrq n => cases h; exact (changeIrq_changesOnly (.clearRaised n) false n s).answer _
  | callInta =>
    cases h
    exact acknowledge_changesOnly .intaFault .intaRaised _ s
  | callVgaUpdate => cases h; exact (vgaUpdate_changesOnly .updateOutputs s).answer _

end Sys2Proof.Machine
end

section
/-! PROOF. The statements on who may change what, read off `exec_changesOnly`. -/

namespace Sys2Proof.Machine

/-! ### Legal states -/

theorem exec_inv {i : Instr} {s t : State} (h : exec i s = .next t) (hs : s.Inv) : t.Inv :=
  (exec_changesOnly h).legal hs

/-- A step that answers a next state ran the decoded transaction with the stream advanced (R11). -/
theorem step_next {s t : State} (h : step s = .next t) :
    ∃ i rest, exec i { s with input := rest } = .next t := by
  unfold step at h
  split at h
  next => cases h
  next =>
    split at h
    next =>
      split at h
      next => cases h
      next x rest _ =>
        split at h
        next => cases h
        next i _ => exact ⟨i, rest, h⟩
    next => cases h

/-- Settles O59: the stream is no part of legality, and every transaction keeps it. -/
theorem stepKeepsLegalStates : Obligations.StepKeepsLegalStates := by
  intro s t hs h
  obtain ⟨i, rest, hexec⟩ := step_next h
  exact exec_inv hexec ((changesOnly_input (fun _ => False) s rest).legal hs)

/-! ### Clock, owners and modules -/

theorem tick_clock (d : Nat) (s : State) :
    (tick Config.params d s).bus.clock = s.bus.clock + d :=
  (tick_changesOnly (A := (· ≠ .clock)) nofun nofun nofun d s).clock fun h => h rfl

/-- What the wiring pass leaves of a module list (40_bus.md R160): all but the connected flags. -/
theorem wireOp_modules (s : State) :
    (wireOp s).modules.map (fun m => (m.kind, m.required, m.debug)) =
      s.modules.map fun m => (m.kind, m.required, m.debug) := by
  show (s.modules.map (wireModule s.modules)).map _ = _
  rw [List.map_map]
  rfl

/-- Settles O27: `MayChange` gives the clock to TICK alone and the modules to WIRE alone. -/
theorem whatOnlyOneTransactionChanges : Obligations.WhatOnlyOneTransactionChanges := by
  intro i s t h
  have hkeep := exec_changesOnly h
  have hmodules : i ≠ .callWire → t.modules = s.modules := fun hi =>
    hkeep.modules (by rintro ⟨⟩; exact hi rfl)
  refine ⟨?_, fun hi => hkeep.clock (by rintro ⟨⟩; exact hi _ rfl), hkeep.owners, hmodules, ?_⟩
  · rintro d rfl
    cases h
    exact tick_clock d s
  · by_cases hi : i = .callWire
    · subst hi
      cases h
      exact wireOp_modules s
    · rw [hmodules hi]

/-! ### Memory and latches -/

/-- Settles O36: `MayChange` gives memory to `mwr` alone, the latches to `mrd` and RESET. -/
theorem memoryAndLatchesHaveOneWriter : Obligations.MemoryAndLatchesHaveOneWriter := by
  intro i s t h
  have hkeep := exec_changesOnly h
  refine ⟨fun hi p j => ?_, fun hmrd hreset => hkeep.latch ?_⟩
  · have hmemory : ¬MayChange i .memory := by
      rintro ⟨⟩
      exact hi _ _ rfl
    simp only [State.planeByte, hkeep.memory hmemory]
  · rintro ⟨⟩
    · exact hmrd _ rfl
    · exact hreset rfl

/-! ### Faults -/

theorem intrPending_eq_true_iff {p : Pic} :
    p.intrPending = true ↔ ∃ n : Line, p.raised.get n = true ∧ (p.owner.get n).isSome = true := by
  simp [Pic.intrPending]

theorem lowestRaised_none {p : Pic} (h : p.lowestRaised = none) (n : Line) :
    p.raised.get n ≠ true :=
  List.find?_eq_none.1 h n (List.mem_finRange n)

/-- With nothing pending, or nothing raised at all, a raised line has no owner. -/
theorem owner_eq_none_of_not_pending {p : Pic} (h : p.intrPending = false ∨ p.lowestRaised = none)
    (n : Line) (hn : p.raised.get n = true) : p.owner.get n = none := by
  rcases h with h | h
  · by_contra howner
    rw [intrPending_eq_true_iff.2 ⟨n, hn, Option.isSome_iff_ne_none.2 howner⟩] at h
    cases h
  · exact absurd hn (lowestRaised_none h n)

/-- Acknowledge raises ACK_NONE with no owned line raised, and otherwise leaves the fault as it is. -/
theorem acknowledge_faulted (C : Params) (s : State) :
    ((acknowledge C s).faulted = some .ackNone ∧
      ∀ n : Line, s.pic.raised.get n = true → s.pic.owner.get n = none) ∨
    (acknowledge C s).faulted = s.faulted := by
  rcases acknowledge_cases C s with ⟨hnone, h⟩ | ⟨n, -, -, h⟩ <;> rw [h]
  · exact .inl ⟨rfl, owner_eq_none_of_not_pending hnone⟩
  · rcases clearIfEdge_cases C n s with ⟨-, hc⟩ | ⟨-, hc⟩ <;> simp [hc]

/-- A transaction leaves the fault as it is, or is INTA with no owned line raised. -/
theorem exec_faulted {i : Instr} {s t : State} (h : exec i s = .next t) :
    t.faulted = s.faulted ∨
    (i = .callInta ∧ t.faulted = some .ackNone ∧
      ∀ n : Line, s.pic.raised.get n = true → s.pic.owner.get n = none) := by
  by_cases hi : i = .callInta
  · subst hi
    cases h
    rcases acknowledge_faulted Config.params s with ⟨hf, hnone⟩ | hf
    · exact .inr ⟨rfl, hf, hnone⟩
    · exact .inl hf
  · exact .inl ((exec_changesOnly h).fault (by rintro ⟨⟩; exact hi rfl))

/-- Settles O51: `step` looks at the fault first, and `exec_faulted` says where one comes from. -/
theorem faultsAreForGood : Obligations.FaultsAreForGood := by
  refine ⟨rfl, fun s f hf => by simp only [step, hf], fun i s t h => ?_⟩
  rcases exec_faulted h with hkeep | ⟨hi, hack, hnone⟩
  · rw [hkeep]
    exact ⟨id, fun h1 h2 => absurd h1 h2⟩
  · exact ⟨fun _ => by simp [hack], fun _ _ => ⟨hi, hack, hnone⟩⟩

/-! ### RESET (70_reset_and_hazards.md R442) -/

/-- Every line is low (R444). -/
def AllLow (s : State) : Prop := ∀ n : Line, s.pic.raised.get n = false

theorem resetPic_allLow (s : State) : AllLow (resetPic s).1 := fun n => by simp [resetPic]

/-- No module's reset raises a line: the PIC's lowers them all, the others leave them. -/
theorem resetModule_allLow (C : Params) (k : ModuleType) (m : ModuleRef) {s : State}
    (h : AllLow s) : AllLow (resetModule C k m s).1 := by
  by_cases hk : k = .pic
  · subst hk
    exact resetPic_allLow s
  · have hraised := (resetModule_changesOnly (A := (· = .latch)) C rfl
      (fun hpic => absurd hpic hk) m s).raised nofun
    intro n
    rw [hraised]
    exact h n

theorem resetModules_keeps_allLow (C : Params) (xs : List Module) (m : ModuleRef) {s : State}
    (h : AllLow s) : AllLow (resetModules C xs m s).1 :=
  andAll_keeps (List.forall_mem_map.2 fun x _ _ => resetModule_allLow C x.1.kind x.2) h

/-- A pass over a list with a PIC lowers every line: the PIC's reset does, and no later one raises any. -/
theorem resetModules_allLow (C : Params) {xs : List Module} (h : HasKind xs .pic) (m : ModuleRef)
    (s : State) : AllLow (resetModules C xs m s).1 := by
  induction xs generalizing m s with
  | nil => simp [HasKind] at h
  | cons x xs ih =>
    rw [resetModules_cons]
    by_cases hx : x.kind = .pic
    · rw [hx]
      exact resetModules_keeps_allLow C xs (m + 1) (resetPic_allLow s)
    · obtain ⟨y, hy, hkind⟩ := h
      rcases List.mem_cons.1 hy with rfl | hy
      · exact absurd hkind hx
      · exact ih ⟨y, hy, hkind⟩ _ _

/-- The operation appends log entries, and answers true only when no E_BIND_CONFLICT is among them
(90_conflicts.md C8). -/
def FailsOnConflict (f : State → State × Bool) : Prop :=
  ∀ s, ∃ es, (f s).1.log = s.log ++ es ∧
    ((f s).2 = true → ∀ p o m, .bindConflict p o m ∉ es)

/-- An operation that appends nothing. -/
theorem FailsOnConflict.of_log_eq {f : State → State × Bool} (h : ∀ s, (f s).1.log = s.log) :
    FailsOnConflict f := fun s => ⟨[], by simp [h s], fun _ _ _ _ => by simp⟩

/-- A pass ANDs its answers, so it fails when one of its steps does. -/
theorem andAll_failsOnConflict {fs : List (State → State × Bool)}
    (h : ∀ f ∈ fs, FailsOnConflict f) : FailsOnConflict (andAll fs) := by
  induction fs with
  | nil => exact .of_log_eq fun _ => rfl
  | cons f fs ih =>
    intro s
    obtain ⟨es, hlog, hok⟩ := h f (List.mem_cons_self ..) s
    obtain ⟨es', hlog', hok'⟩ := ih (fun g hg => h g (List.mem_cons_of_mem _ hg)) (f s).1
    refine ⟨es ++ es', by rw [andAll_cons, hlog', hlog, List.append_assoc],
      fun hand p o m hmem => ?_⟩
    rw [andAll_cons, Bool.and_eq_true] at hand
    rcases List.mem_append.1 hmem with hmem | hmem
    · exact hok hand.1 p o m hmem
    · exact hok' hand.2 p o m hmem

theorem bindPort_failsOnConflict (p : Port) (m : ModuleRef) : FailsOnConflict (bindPort p m) := by
  intro s
  rcases bindPort_cases p m s with ⟨-, h⟩ | ⟨-, h⟩ | ⟨o, -, -, h⟩ <;> rw [h]
  · exact ⟨[], by simp, by simp⟩
  · exact ⟨[], by simp, by simp⟩
  · exact ⟨[.bindConflict p o m], rfl, nofun⟩

theorem bindPorts_failsOnConflict (m : ModuleRef) (ps : List Port) :
    FailsOnConflict (bindPorts m ps) :=
  andAll_failsOnConflict (List.forall_mem_map.2 fun p _ => bindPort_failsOnConflict p m)

@[simp] theorem requestTimer_log (C : Params) (m : ModuleRef) (i : Int) (a : Bool) (s : State) :
    (requestTimer C m i a s).log = s.log := by
  rcases requestTimer_cases C m i a s with ⟨k, -, h⟩ | ⟨-, h⟩ <;> rw [h] <;> rfl

theorem resetVideo_failsOnConflict (C : Params) (m : ModuleRef) :
    FailsOnConflict (resetVideo C m) := by
  intro s
  simpa only [resetVideo, requestTimer_log, State.setVga_log] using
    bindPorts_failsOnConflict m vgaPorts (s.setVga (vgaResetValue s.vga.planes))

theorem applyResetCall_failsOnConflict (C : Params) (c : ResetCall) :
    FailsOnConflict (applyResetCall C c) := by
  cases c with
  | bind p m => exact bindPort_failsOnConflict p m
  | requestTimer m i a => exact .of_log_eq (requestTimer_log C m i a)
  | requestIrq m =>
    intro s
    simp only [applyResetCall]
    rcases requestIrq_cases C m s with ⟨n, -, h⟩ | ⟨n, -, -, h⟩ | ⟨-, -, h⟩ <;> rw [h]
    · exact ⟨[], by simp, by simp⟩
    · exact ⟨[], by simp, by simp⟩
    · exact ⟨[.irqExhausted m], rfl, by simp⟩

theorem resetForeign_failsOnConflict (C : Params) : FailsOnConflict (resetForeign C) := by
  intro s
  obtain ⟨es, hlog, hok⟩ := andAll_failsOnConflict
    (fs := (C.resetCalls s.draws).map (applyResetCall C))
    (List.forall_mem_map.2 fun c _ => applyResetCall_failsOnConflict C c) s.countDraw
  rw [resetForeign_eq]
  exact ⟨es, hlog, fun hand => hok (Bool.and_eq_true_iff.1 hand).2⟩

theorem resetModule_failsOnConflict (C : Params) (k : ModuleType) (m : ModuleRef) :
    FailsOnConflict (resetModule C k m) := by
  intro s
  rcases resetModule_cases C k m s with ⟨-, h⟩ | ⟨-, h⟩ | ⟨-, h⟩ | ⟨-, -, -, h⟩ <;> rw [h]
  · exact resetVideo_failsOnConflict C m s
  · exact ⟨[], by simp [resetPic], by simp⟩
  · exact ⟨[], by simp, by simp⟩
  · exact resetForeign_failsOnConflict C s

theorem resetOp_failsOnConflict (C : Params) : FailsOnConflict (resetOp C) := fun _ =>
  andAll_failsOnConflict
    (List.forall_mem_map.2 fun x _ => resetModule_failsOnConflict C x.1.kind x.2) _

/-- Settles O47: `MayChange` gives RESET latches and raised lines; the pass lowers those, and it fails on
a conflict. -/
theorem resetKeepsWhatItMust : Obligations.ResetKeepsWhatItMust := by
  intro s
  have hkeep := resetOp_changesOnly (A := MayChange .callReset) .resetLatch .resetRaised
    Config.params s
  obtain ⟨es, hlog, hok⟩ := resetOp_failsOnConflict Config.params s
  refine ⟨_, es, rfl, fun hpic => resetModules_allLow Config.params hpic 0 _, hkeep.owners,
    hkeep.clock nofun, hkeep.modules nofun, hkeep.memory nofun, hkeep.outputs nofun,
    hlog, hkeep.fault nofun, hkeep.liveness nofun, ⟨_, rfl⟩, fun p o m hmem => ?_⟩
  have hfalse : (resetOp Config.params s).2 = false :=
    Bool.eq_false_iff.2 fun htrue => hok htrue p o m hmem
  simp [answerBool, hfalse]

end Sys2Proof.Machine
end

section
/-! PROOF. The memory window (20_memory.md R82-R84, 42_vga_memory_codec.md R251, R261-R264): the two window
transactions outside it, and which bytes a write inside it stores. -/

namespace Sys2Proof.Machine

theorem exec_mrd (a : PhysAddr) (s : State) :
    exec (.mrd a) s = .next (answerByte (memRead Config.params a s)) := rfl

theorem exec_mwr (a : PhysAddr) (d : Byte) (s : State) :
    exec (.mwr a d) s = .next ((memWrite Config.params a d s).answer .unit) := rfl

/-! ### Resolve (R82, R83) -/

/-- `Resolve` under one memory-map select, with the reduction to 16 bits written out as in R83. -/
theorem resolve_of_mms {v : Vga} {mms : BitVec 2} (hmms : v.mms = mms) (a : PhysAddr) :
    v.resolve a = if windowBase mms ≤ a.toNat ∧ a.toNat ≤ windowLimit mms then
      some (BitVec.ofNat 16 ((a.toNat - windowBase mms) % 65536)) else none := by
  have hmod (n : Nat) : BitVec.ofNat 16 (n % 65536) = BitVec.ofNat 16 n :=
    BitVec.eq_of_toNat_eq (by simp)
  rw [hmod, Vga.resolve, hmms]

theorem memRead_of_outside (C : Params) {a : PhysAddr} {s : State} (h : s.vga.resolve a = none) :
    memRead C a s = (s, 0xFF) := by
  simp [memRead, h]

theorem memWrite_of_outside (C : Params) {a : PhysAddr} (d : Byte) {s : State}
    (h : s.vga.resolve a = none) : memWrite C a d s = s := by
  simp [memWrite, h]

/-- Settles O29: `resolve_of_mms` at each of the four selects; outside the window both transactions answer
at once. -/
theorem windowResolution : Obligations.WindowResolution := by
  refine ⟨fun v a => ⟨fun hmms => resolve_of_mms hmms a, fun hmms => resolve_of_mms hmms a,
    fun hmms => resolve_of_mms hmms a, fun hmms => resolve_of_mms hmms a⟩, fun s a d hout => ⟨?_, ?_⟩⟩
  · rw [exec_mrd, memRead_of_outside _ hout]
    rfl
  · rw [exec_mwr, memWrite_of_outside _ d hout]
    rfl

/-! ### What a write changes (R264) -/

@[simp] theorem fontCheck_vga (C : Params) (off : BitVec 16) (s : State) :
    (fontCheck C off s).vga = s.vga := by
  rcases fontCheck_cases C off s with h | ⟨k, b, h⟩ <;> simp [h]

@[simp] theorem markTiles_planes (C : Params) (off : BitVec 16) (v : Vga) :
    (markTiles C off v).planes = v.planes := by
  obtain ⟨f, h⟩ := markTiles_cases C off v
  simp [h]

/-- A write inside the window leaves in memory what `storesOf` names. -/
theorem memWrite_planes (C : Params) {a : PhysAddr} {off : BitVec 16} (d : Byte) {s : State}
    (h : s.vga.resolve a = some off) :
    (memWrite C a d s).vga.planes = storeAll (storesOf C s.vga off d) s.vga.planes := by
  simp only [memWrite, h, writeInside]
  cases storesOf C s.vga off d with
  | nil => rfl
  | cons w ws => simp

/-- A window write touches nothing but planes, tiles and outputs. -/
theorem memWrite_frame (C : Params) (a : PhysAddr) (d : Byte) (s : State) :
    memWrite C a d s = { s with
      vga := { s.vga with
        planes := (memWrite C a d s).vga.planes, clean := (memWrite C a d s).vga.clean }
      out := (memWrite C a d s).out } := by
  rcases memWrite_cases C a d s with h | ⟨off, ws, f, -, -, -, h | ⟨k, b, h⟩⟩ <;> rw [h] <;> rfl

/-! ### The chain-four store (R84, R263) -/

theorem planeEnabled_eq (v : Vga) (q : Fin 4) : v.planeEnabled q = v.seq[2].getLsbD q := by
  simp [Vga.planeEnabled, Vga.mapMask]

theorem eq_chainPlane_iff {p : Fin 4} {off : BitVec 16} :
    p = chainPlane off ↔ p.val = off.toNat % 4 := Fin.ext_iff

@[simp] theorem storeAll_nil (m : Memory) : storeAll [] m = m := rfl

theorem planeRead_storeAll_singleton (C : Params) (m : Memory) (p q : Fin 4) (i j : BitVec 16)
    (b : Byte) : planeRead C (storeAll [(p, i, b)] m) q j =
      if q = p ∧ j = i then b else planeRead C m q j := by
  split
  case isTrue h =>
    obtain ⟨rfl, rfl⟩ := h
    exact planeRead_write_self C m q j b
  case isFalse h => exact planeRead_write_of_ne C m b h

section ChainFour
variable {C : Params} {v : Vga} (hchain : v.chain4 = true)
include hchain

theorem storesOf_of_raw (hraw : C.chain4Write = .raw) (off : BitVec 16) (d : Byte) :
    storesOf C v off d = [(chainPlane off, chainIndex off, d)] := by
  simp [storesOf, hchain, hraw]

theorem storesOf_of_pipeline (hpipe : C.chain4Write = .pipeline) (off : BitVec 16) (d : Byte) :
    storesOf C v off d = if v.planeEnabled (chainPlane off) then
      [(chainPlane off, chainIndex off, writeMode v d (chainPlane off))] else [] := by
  simp [storesOf, hchain, hpipe]

/-- The bytes of memory after a chain-four store under RAW. -/
theorem planeRead_chainFour_raw (hraw : C.chain4Write = .raw) (off : BitVec 16) (d : Byte)
    (m : Memory) (p : Fin 4) (i : BitVec 16) :
    planeRead C (storeAll (storesOf C v off d) m) p i =
      if p = chainPlane off ∧ i = chainIndex off then d else planeRead C m p i := by
  rw [storesOf_of_raw hchain hraw, planeRead_storeAll_singleton]

/-- The bytes of memory after a chain-four store under PIPELINE. -/
theorem planeRead_chainFour_pipeline (hpipe : C.chain4Write = .pipeline) (off : BitVec 16)
    (d : Byte) (m : Memory) (p : Fin 4) (i : BitVec 16) :
    planeRead C (storeAll (storesOf C v off d) m) p i =
      if p = chainPlane off ∧ i = chainIndex off then
        if v.seq[2].getLsbD p then writeMode v d p else planeRead C m p i
      else planeRead C m p i := by
  rw [storesOf_of_pipeline hchain hpipe, ← planeEnabled_eq]
  by_cases hat : p = chainPlane off ∧ i = chainIndex off
  · obtain ⟨rfl, rfl⟩ := hat
    cases v.planeEnabled (chainPlane off) <;> simp [planeRead_storeAll_singleton]
  · cases v.planeEnabled (chainPlane off) <;> simp [planeRead_storeAll_singleton, hat]

end ChainFour

/-- Settles O33: `storesOf` names at most the addressed byte, with the CPU's byte under RAW and the write
mode's under PIPELINE when the map mask enables its plane. -/
theorem chainFourStore : Obligations.ChainFourStore := by
  intro s a d off hoff hchain
  refine ⟨_, exec_mwr a d s, fun p i => ?_, ?_⟩
  · have hbyte : ((memWrite Config.params a d s).answer .unit).planeByte p i =
        planeRead Config.params (storeAll (storesOf Config.params s.vga off d) s.vga.planes) p i :=
      congrArg (planeRead Config.params · p i) (memWrite_planes Config.params d hoff)
    simp only [hbyte, ← eq_chainPlane_iff]
    cases hmode : Config.params.chain4Write with
    | raw => exact planeRead_chainFour_raw hchain hmode off d s.vga.planes p i
    | pipeline => exact planeRead_chainFour_pipeline hchain hmode off d s.vga.planes p i
  · exact congrArg (State.answer · .unit) (memWrite_frame Config.params a d s)

end Sys2Proof.Machine
end

section
/-! PROOF. The encoding (30_encoding.md R110-R120): decode and encode agree on every accepted word, which
words are refused, and a port word's row is the generic dispatch at its port (R112, R113). -/

namespace Sys2Proof

/-! ### The fields of a word (R110, R111) -/

/-- ADDR is the reserved nibble of a port word above its PORT. -/
theorem wordAddr_toNat (w : Word) :
    (wordAddr w).toNat = (wordHigh w).toNat * 2 ^ 16 + (wordPort w).toNat := by
  simp only [wordAddr, wordHigh, wordPort, toNat_field]
  omega

/-- PORT of a port word stands where a call has OP and ARG. -/
theorem wordPort_toNat (w : Word) :
    (wordPort w).toNat = (wordOp w).toNat * 2 ^ 8 + (wordArg w).toNat := by
  simp only [wordPort, wordOp, wordArg, toNat_field]
  omega

@[simp] theorem wordPort_iorWord (p : Port) : wordPort (iorWord p) = p := by
  have hp := p.isLt
  rw [iorWord, wordPort_packWord (by omega) (by omega) (by omega), BitVec.ofNat_toNat,
    BitVec.setWidth_eq]

@[simp] theorem wordPort_iowWord (p : Port) (d : Byte) : wordPort (iowWord p d) = p := by
  have hp := p.isLt
  rw [iowWord, wordPort_packWord (by omega) (by omega) d.isLt, BitVec.ofNat_toNat,
    BitVec.setWidth_eq]

@[simp] theorem wordData_iowWord (p : Port) (d : Byte) : wordData (iowWord p d) = d := by
  have hp := p.isLt
  rw [iowWord, wordData_packWord (by omega) (by omega) d.isLt, BitVec.ofNat_toNat,
    BitVec.setWidth_eq]

@[simp] theorem wordAddr_mrWord (a : PhysAddr) : wordAddr (mrWord a) = a := by
  rw [mrWord, wordAddr_packWord (by omega) a.isLt (by omega), BitVec.ofNat_toNat,
    BitVec.setWidth_eq]

@[simp] theorem wordAddr_mwWord (a : PhysAddr) (d : Byte) : wordAddr (mwWord a d) = a := by
  rw [mwWord, wordAddr_packWord (by omega) a.isLt d.isLt, BitVec.ofNat_toNat, BitVec.setWidth_eq]

@[simp] theorem wordData_mwWord (a : PhysAddr) (d : Byte) : wordData (mwWord a d) = d := by
  rw [mwWord, wordData_packWord (by omega) a.isLt d.isLt, BitVec.ofNat_toNat, BitVec.setWidth_eq]

@[simp] theorem wordOp_callWord (op arg : Byte) : wordOp (callWord op arg) = op := by
  have ho := op.isLt
  have ha := arg.isLt
  rw [callWord, wordOp_packWord (by omega) (by omega) (by omega)]
  apply BitVec.eq_of_toNat_eq
  rw [BitVec.toNat_ofNat]
  omega

@[simp] theorem wordArg_callWord (op arg : Byte) : wordArg (callWord op arg) = arg := by
  have ho := op.isLt
  have ha := arg.isLt
  rw [callWord, wordArg_packWord (by omega) (by omega) (by omega)]
  apply BitVec.eq_of_toNat_eq
  rw [BitVec.toNat_ofNat]
  omega

/-! A word whose reserved bits are zero is the one its fields encode. -/

theorem iorWord_wordPort {w : Word} (hkind : wordKind w = 0x1) (hhigh : wordHigh w = 0)
    (hdata : wordData w = 0) : iorWord (wordPort w) = w := by
  have haddr := wordAddr_toNat w
  rw [hhigh] at haddr
  conv_rhs => rw [packWord_fields w, hkind, hdata, haddr]
  simp [iorWord]

theorem iowWord_wordPort_wordData {w : Word} (hkind : wordKind w = 0x2) (hhigh : wordHigh w = 0) :
    iowWord (wordPort w) (wordData w) = w := by
  have haddr := wordAddr_toNat w
  rw [hhigh] at haddr
  conv_rhs => rw [packWord_fields w, hkind, haddr]
  simp [iowWord]

theorem mrWord_wordAddr {w : Word} (hkind : wordKind w = 0x3) (hdata : wordData w = 0) :
    mrWord (wordAddr w) = w := by
  conv_rhs => rw [packWord_fields w, hkind, hdata]
  rfl

theorem mwWord_wordAddr_wordData {w : Word} (hkind : wordKind w = 0x4) :
    mwWord (wordAddr w) (wordData w) = w := by
  conv_rhs => rw [packWord_fields w, hkind]
  rfl

theorem callWord_wordOp_wordArg {w : Word} (hkind : wordKind w = 0x8) (hhigh : wordHigh w = 0)
    (hdata : wordData w = 0) : callWord (wordOp w) (wordArg w) = w := by
  have haddr := wordAddr_toNat w
  rw [hhigh, wordPort_toNat] at haddr
  conv_rhs => rw [packWord_fields w, hkind, hdata, haddr]
  simp [callWord]

/-! ### Port rows (R112, R113) -/

theorem portReadInstr_of_not_mem {p : Port} (hp : p ∉ vgaPorts) : portReadInstr p = .inPort p := by
  unfold portReadInstr
  split
  case h_23 => rfl
  all_goals exact absurd (by decide) hp

theorem portWriteInstr_of_not_mem {p : Port} (d : Byte) (hp : p ∉ vgaPorts) :
    portWriteInstr p d = .outPort p d := by
  unfold portWriteInstr
  split
  case h_23 => rfl
  all_goals exact absurd (by decide) hp

theorem wellFormed_inPort {p : Port} : (Instr.inPort p).wellFormed = true ↔ p ∉ vgaPorts := by
  simp [Instr.wellFormed]

theorem wellFormed_outPort {p : Port} {d : Byte} :
    (Instr.outPort p d).wellFormed = true ↔ p ∉ vgaPorts := by
  simp [Instr.wellFormed]

theorem portReadInstr_wellFormed (p : Port) : (portReadInstr p).wellFormed = true := by
  fun_cases portReadInstr p
  case case23 => exact wellFormed_inPort.2 (by simp_all [vgaPorts])
  all_goals rfl

theorem portWriteInstr_wellFormed (p : Port) (d : Byte) :
    (portWriteInstr p d).wellFormed = true := by
  fun_cases portWriteInstr p d
  case case23 => exact wellFormed_outPort.2 (by simp_all [vgaPorts])
  all_goals rfl

@[simp] theorem encode_portReadInstr_word (p : Port) :
    (encode (portReadInstr p)).word = iorWord p := by
  fun_cases portReadInstr p <;> rfl

@[simp] theorem encode_portWriteInstr_word (p : Port) (d : Byte) :
    (encode (portWriteInstr p d)).word = iowWord p d := by
  fun_cases portWriteInstr p d <;> rfl

/-- Settles O18: at each of the 22 ports both sides run the same handler, and any other port's row is the
generic one. -/
theorem portRowsAgreeWithDispatch : Obligations.PortRowsAgreeWithDispatch := by
  refine fun s p d => ⟨?_, ?_⟩
  · fun_cases portReadInstr p <;> rfl
  · fun_cases portWriteInstr p d <;> rfl

/-! ### Decoding each format's word (R110, R118) -/

theorem decode_iorWord (p : Port) (x : Side) :
    decode (.mk (iorWord p) x) = .ok (portReadInstr p) := by
  obtain ⟨hkind, hhigh, hdata⟩ := Laws.Format.ior_format p
  simp [decode, hkind, hhigh, hdata]

theorem decode_iowWord (p : Port) (d : Byte) (x : Side) :
    decode (.mk (iowWord p d) x) = .ok (portWriteInstr p d) := by
  obtain ⟨hkind, hhigh⟩ := Laws.Format.iow_format p d
  simp [decode, hkind, hhigh]

theorem decode_mrWord {a : PhysAddr} (ha : inWindowRange a = true) (x : Side) :
    decode (.mk (mrWord a) x) = .ok (.mrd a) := by
  obtain ⟨hkind, hdata⟩ : wordKind (mrWord a) = 0x3#4 ∧ wordData (mrWord a) = 0 :=
    Laws.Format.mrd a
  simp [decode, hkind, hdata, ha]

theorem decode_mwWord {a : PhysAddr} (ha : inWindowRange a = true) (d : Byte) (x : Side) :
    decode (.mk (mwWord a d) x) = .ok (.mwr a d) := by
  have hkind : wordKind (mwWord a d) = 0x4#4 := Laws.Format.mwr a d
  simp [decode, hkind, ha]

theorem decode_callWord (op arg : Byte) (x : Side) :
    decode (.mk (callWord op arg) x) = decodeCall op arg x := by
  obtain ⟨hkind, hhigh, hdata⟩ := Laws.Format.call_format op arg
  simp [decode, hkind, hhigh, hdata]

/-- Settles O55: the row's word decodes to what its fields name; the side operands a call has are read
back by `decodeCall`. -/
theorem decodeOfEncode : Obligations.DecodeOfEncode := by
  intro i hwf
  cases i with
  | in3B4 | in3B5 | in3BA | in3C0 | in3C1 | in3C2 | in3C3 | in3C4 | in3C5 | in3C6 | in3C7
  | in3C8 | in3C9 | in3CA | in3CB | in3CC | in3CD | in3CE | in3CF | in3D4 | in3D5 | in3DA =>
    exact decode_iorWord _ _
  | out3B4 | out3B5 | out3BA | out3C0 | out3C1 | out3C2 | out3C3 | out3C4 | out3C5 | out3C6
  | out3C7 | out3C8 | out3C9 | out3CA | out3CB | out3CC | out3CD | out3CE | out3CF | out3D4
  | out3D5 | out3DA => exact decode_iowWord _ _ _
  | inPort p =>
    rw [encode, decode_iorWord, portReadInstr_of_not_mem (wellFormed_inPort.1 hwf)]
  | outPort p d =>
    rw [encode, decode_iowWord, portWriteInstr_of_not_mem d (wellFormed_outPort.1 hwf)]
  | mrd a => exact decode_mrWord hwf _
  | mwr a d => exact decode_mwWord hwf d _
  | callBind | callRequestTimer | callSetTimerActive | callResetTimer | callTick | callWire
  | callReset | callStop | callSetUpdateInterval | callGetUpdateInterval | callRequestIrq
  | callSetIrq | callClearIrq | callInta | callVgaUpdate | callScreenSize =>
    exact decode_callWord _ _ _

/-! ### What the decoder accepts -/

/-- A guarded answer is accepted when the guard passes and the answer is. -/
theorem guarded_eq_ok {c : Prop} [Decidable c] {r : Except DecodeError Instr} {e : DecodeError}
    {i : Instr} : (if c then r else .error e) = .ok i ↔ c ∧ r = .ok i := by
  split <;> simp [*]

/-- An accepted call is well formed and encodes to its own OP and ARG. -/
theorem decodeCall_ok {op arg : Byte} {x : Side} {i : Instr} (h : decodeCall op arg x = .ok i) :
    i.wellFormed = true ∧ (encode i).word = callWord op arg := by
  unfold decodeCall at h
  split at h
  case h_1 | h_2 => cases h; exact ⟨rfl, rfl⟩
  case h_17 => cases h
  all_goals
    obtain ⟨rfl, ⟨⟩⟩ := guarded_eq_ok.1 h
    exact ⟨rfl, rfl⟩

/-- Settles O56: the kinds of `decode`, each with the reserved bits its guards force to zero. -/
theorem encodeOfDecode : Obligations.EncodeOfDecode := by
  intro x i h
  simp only [decode] at h
  split at h
  case h_1 hkind =>
    simp only [ne_eq, ite_not, guarded_eq_ok] at h
    obtain ⟨hhigh, hdata, ⟨⟩⟩ := h
    exact ⟨portReadInstr_wellFormed _,
      (encode_portReadInstr_word _).trans (iorWord_wordPort hkind hhigh hdata)⟩
  case h_2 hkind =>
    simp only [ne_eq, ite_not, guarded_eq_ok] at h
    obtain ⟨hhigh, ⟨⟩⟩ := h
    exact ⟨portWriteInstr_wellFormed _ _,
      (encode_portWriteInstr_word _ _).trans (iowWord_wordPort_wordData hkind hhigh)⟩
  case h_3 hkind =>
    simp only [ne_eq, ite_not, guarded_eq_ok] at h
    obtain ⟨hdata, haddr, ⟨⟩⟩ := h
    exact ⟨haddr, mrWord_wordAddr hkind hdata⟩
  case h_4 hkind =>
    obtain ⟨haddr, ⟨⟩⟩ := guarded_eq_ok.1 h
    exact ⟨haddr, mwWord_wordAddr_wordData hkind⟩
  case h_5 hkind =>
    simp only [ne_eq, ite_not, guarded_eq_ok] at h
    obtain ⟨hhigh, hdata, hcall⟩ := h
    obtain ⟨hwf, hword⟩ := decodeCall_ok hcall
    exact ⟨hwf, hword.trans (callWord_wordOp_wordArg hkind hhigh hdata)⟩
  case h_6 => cases h

/-! ### What the decoder refuses (R120) -/

/-- The decoder's answer is an error. -/
def Refuses (r : Except DecodeError Instr) : Prop := ∃ e, r = .error e

@[simp] theorem refuses_error (e : DecodeError) : Refuses (.error e) := ⟨e, rfl⟩

@[simp] theorem not_refuses_ok (i : Instr) : ¬Refuses (.ok i) := nofun

/-- A guarded answer is refused when the guard fails or the answer is. -/
@[simp] theorem refuses_guarded {c : Prop} [Decidable c] {r : Except DecodeError Instr}
    {e : DecodeError} : Refuses (if c then r else .error e) ↔ ¬c ∨ Refuses r := by
  split <;> simp [*]

/-- The OPs of R118. -/
def callOps : List Nat :=
  [0x01, 0x02, 0x03, 0x04, 0x05, 0x06, 0x07, 0x08, 0x09, 0x0A, 0x10, 0x11, 0x12, 0x13, 0x20, 0x21]

theorem decodeCall_refuses_iff (op arg : Byte) (x : Side) :
    Refuses (decodeCall op arg x) ↔
      op.toNat ∉ callOps ∨ (arg.toNat ≠ 0 ∧ op.toNat ≠ 0x11 ∧ op.toNat ≠ 0x12) := by
  unfold decodeCall
  split
  case h_17 =>
    have hop : op.toNat ∉ callOps := by simp_all [callOps, BitVec.toNat_eq]
    simp [hop]
  all_goals simp [callOps, BitVec.toNat_eq]

theorem inWindowRange_iff {a : PhysAddr} :
    inWindowRange a = true ↔ 0xA0000 ≤ a.toNat ∧ a.toNat ≤ 0xBFFFF := by
  simp [inWindowRange, windowFirst, windowLast, BitVec.ule]

/-- R120 on the fields: each KIND meets the reserved bits and ranges of its own format. -/
theorem decode_refuses_iff (x : Transaction) :
    Refuses (decode x) ↔
      (wordKind x.word).toNat ∉ [0x1, 0x2, 0x3, 0x4, 0x8] ∨
      ((wordKind x.word).toNat ∈ [0x1, 0x2, 0x8] ∧ (wordHigh x.word).toNat ≠ 0) ∨
      ((wordKind x.word).toNat ∈ [0x1, 0x3, 0x8] ∧ (wordData x.word).toNat ≠ 0) ∨
      ((wordKind x.word).toNat = 0x8 ∧ (wordOp x.word).toNat ∉ callOps) ∨
      ((wordKind x.word).toNat = 0x8 ∧ (wordArg x.word).toNat ≠ 0 ∧ (wordOp x.word).toNat ≠ 0x11 ∧
        (wordOp x.word).toNat ≠ 0x12) ∨
      ((wordKind x.word).toNat ∈ [0x3, 0x4] ∧
        ¬(0xA0000 ≤ (wordAddr x.word).toNat ∧ (wordAddr x.word).toNat ≤ 0xBFFFF)) := by
  simp only [decode]
  split
  case h_1 hkind => simp [hkind, BitVec.toNat_eq]
  case h_2 hkind => simp [hkind, BitVec.toNat_eq]
  case h_3 hkind => simp [hkind, inWindowRange_iff, BitVec.toNat_eq]
  case h_4 hkind => simp [hkind, inWindowRange_iff]
  case h_5 hkind => simp [hkind, decodeCall_refuses_iff, BitVec.toNat_eq]
  case h_6 =>
    have hkind : (wordKind x.word).toNat ∉ [0x1, 0x2, 0x3, 0x4, 0x8] := by
      simp_all [BitVec.toNat_eq]
    simp [hkind]

/-- KIND is the top nibble, so it needs no reduction. -/
theorem wordKind_toNat (w : Word) : (wordKind w).toNat = w.toNat / 2 ^ 28 := by
  rw [wordKind, toNat_field]
  omega

theorem wordData_toNat (w : Word) : (wordData w).toNat = w.toNat % 256 := by
  rw [wordData, toNat_field]
  omega

theorem step_of_decode_error {s : Machine.State} {x : Transaction} {rest : List Transaction}
    {e : DecodeError} (haccepts : s.Accepts) (hinput : s.input = x :: rest)
    (hdecode : decode x = .error e) : Machine.step s = .refused (.reserved e) := by
  obtain ⟨hfaulted, hlive⟩ := haccepts
  simp only [Machine.step, hfaulted, hlive, hinput, hdecode, if_true]

/-- Settles O54: `decode_refuses_iff` with each field written as arithmetic on the word. -/
theorem refusedWords : Obligations.RefusedWords := by
  refine fun x => ⟨?_, fun s rest e => step_of_decode_error⟩
  have h := decode_refuses_iff x
  simp only [wordKind_toNat, wordData_toNat, wordHigh, wordOp, wordArg, wordAddr, toNat_field] at h
  exact h

/-- Settles O57: the decoder evaluated on the listed words. -/
theorem specWordsDecode : Obligations.SpecWordsDecode := ⟨by decide, by decide⟩

end Sys2Proof
end

section
/-! PROOF. Ports and bindings (40_bus.md R141-R146): a VGA port's row is the generic row
(`portRowsAgreeWithDispatch`), so an access is the one dispatch of `portRead` or `portWrite`. -/

namespace Sys2Proof.Machine

/-! ### The row of a port word -/

theorem exec_inPort (p : Port) (s : State) :
    exec (.inPort p) s =
      .next (answerByte (portRead Config.params p (vgaReadHandler Config.params p) s)) := rfl

theorem exec_outPort (p : Port) (d : Byte) (s : State) :
    exec (.outPort p d) s =
      .next ((portWrite Config.params p d (vgaWriteHandler p d) s).answer .unit) := rfl

theorem exec_portReadInstr (s : State) (p : Port) :
    exec (portReadInstr p) s = exec (.inPort p) s :=
  (portRowsAgreeWithDispatch s p 0).1

theorem exec_portWriteInstr (s : State) (p : Port) (d : Byte) :
    exec (portWriteInstr p d) s = exec (.outPort p d) s :=
  (portRowsAgreeWithDispatch s p d).2

/-- Settles O17: every row of the port is the dispatch, which finds no owner. -/
theorem unboundPorts : Obligations.UnboundPorts := by
  intro s p d hp
  simp only [exec_portReadInstr, exec_portWriteInstr, exec_inPort, exec_outPort,
    portRead_of_unbound hp, portWrite_of_unbound hp]
  exact ⟨rfl, rfl, rfl, rfl⟩

/-! ### Ports without a rule (logs 14, 15, 16) -/

theorem portRead_of_foreign {C : Params} {p : Port} {h : State → State × Byte} {s : State}
    {m : ModuleRef} (hp : s.bus.portOwner p = some m) (hm : s.isVideo m = false) :
    portRead C p h s = foreignRead C m s := by
  simp [portRead, hp, hm]

theorem portWrite_of_foreign {C : Params} {p : Port} {d : Byte} {h : State → State} {s : State}
    {m : ModuleRef} (hp : s.bus.portOwner p = some m) (hm : s.isVideo m = false) :
    portWrite C p d h s = deviceStep C m s := by
  simp [portWrite, foreignWrite, hp, hm]

/-- What another module's port handler may change: it draws once, and reports an error or does not. -/
theorem deviceStep_frame (C : Params) (m : ModuleRef) (s : State) :
    ((deviceStep C m s).log = s.log ∧ (deviceStep C m s).shutdown = s.shutdown ∨
      (deviceStep C m s).log = s.log ++ [.device m] ∧ (deviceStep C m s).shutdown = true) ∧
    deviceStep C m s = { s with
      log := (deviceStep C m s).log, shutdown := (deviceStep C m s).shutdown,
      draws := s.draws + 1 } := by
  rcases deviceStep_cases C m s with h | h <;> rw [h]
  · exact ⟨.inl ⟨rfl, rfl⟩, rfl⟩
  · exact ⟨.inr ⟨rfl, rfl⟩, rfl⟩

/-- The gate is evaluated only for the 22 ports (41_vga_ports.md R180). -/
theorem State.vgaAnswers_of_not_mem {s : State} {p : Port} {m : ModuleRef} (hp : p ∉ vgaPorts)
    (ho : s.bus.portOwner p = some m) (hm : s.isVideo m = true) : s.VgaAnswers p :=
  ⟨m, ho, hm, by simp [Vga.gatePasses, hp]⟩

theorem vgaReadHandler_of_not_mem (C : Params) {p : Port} (hp : p ∉ vgaPorts) :
    vgaReadHandler C p = drawByte C := by
  unfold vgaReadHandler
  split
  case h_23 => rfl
  all_goals exact absurd (by decide) hp

theorem vgaWriteHandler_of_not_mem {p : Port} (d : Byte) (hp : p ∉ vgaPorts) :
    vgaWriteHandler p d = id := by
  unfold vgaWriteHandler
  split
  case h_23 => rfl
  all_goals exact absurd (by decide) hp

/-- Settles O19: another module's handler is `deviceStep`, after a draw for a read; an extra port of the
VGA falls through its handlers' tables. -/
theorem portsWithoutARule : Obligations.PortsWithoutARule := by
  refine ⟨fun s p m d ho hm => ⟨?_, ?_⟩, fun s p m d hp ho hm => ⟨?_, ?_⟩⟩
  · obtain ⟨hreport, hframe⟩ := deviceStep_frame Config.params m s.countDraw
    rw [exec_portReadInstr, exec_inPort, portRead_of_foreign ho hm]
    exact ⟨_, Config.params.drawByte s.draws, rfl, rfl, hreport,
      congrArg (State.answer · (.byte (Config.params.drawByte s.draws))) hframe⟩
  · obtain ⟨hreport, hframe⟩ := deviceStep_frame Config.params m s
    rw [exec_portWriteInstr, exec_outPort, portWrite_of_foreign ho hm]
    exact ⟨_, rfl, hreport, congrArg (State.answer · .unit) hframe⟩
  · rw [exec_portReadInstr, exec_inPort, portRead_of_answers (s.vgaAnswers_of_not_mem hp ho hm),
      vgaReadHandler_of_not_mem _ hp]
    exact ⟨_, rfl⟩
  · rw [exec_portWriteInstr, exec_outPort, portWrite_of_answers (s.vgaAnswers_of_not_mem hp ho hm),
      vgaWriteHandler_of_not_mem d hp]
    rfl

/-! ### Bindings -/

theorem exec_callBind (p : Port) (m : ModuleRef) (s : State) :
    exec (.callBind p m) s = .next (answerBool (bindPort p m s)) := rfl

/-- The owner of every port after one is bound. -/
theorem portOwner_cellInsert (b : Bus) (p q : Port) (m : ModuleRef) :
    Bus.portOwner { b with portMap := cellInsert p.toNat m b.portMap } q =
      if q = p then some m else b.portOwner q := by
  unfold Bus.portOwner
  split
  next h => rw [h, cellLookup_insert_self]
  next h => rw [cellLookup_insert_of_ne (mt BitVec.eq_of_toNat_eq h)]

/-- The owner of every port after a BIND: only an unbound port changes hands. -/
theorem portOwner_bindPort (p q : Port) (m : ModuleRef) (s : State) :
    (bindPort p m s).1.bus.portOwner q =
      if q = p ∧ s.bus.portOwner p = none then some m else s.bus.portOwner q := by
  rcases bindPort_cases p m s with ⟨hp, h⟩ | ⟨hp, h⟩ | ⟨o, -, hp, h⟩ <;> rw [h] <;>
    simp [hp, portOwner_cellInsert]

/-- Settles O20: the three cases of `bindPort`. -/
theorem bindRule : Obligations.BindRule := by
  intro s p m
  simp only [exec_callBind]
  rcases bindPort_cases p m s with ⟨hp, h⟩ | ⟨hp, h⟩ | ⟨o, hne, hp, h⟩ <;> rw [h, hp]
  · exact ⟨fun _ => ⟨_, rfl, fun q => portOwner_cellInsert s.bus p q m, rfl⟩, nofun, nofun⟩
  · exact ⟨nofun, fun _ => rfl, fun o ho hom => absurd (Option.some.inj ho).symm hom⟩
  · refine ⟨nofun, fun ho => absurd (Option.some.inj ho) hne, fun o' ho' _ => ?_⟩
    cases ho'
    rfl

/-- Settles O21: `portOwner_bindPort` along the run. -/
theorem bindingsAreKept : Obligations.BindingsAreKept := by
  intro bs
  induction bs with
  | nil => exact fun s => ⟨s, rfl, fun _ _ => id, fun _ _ => .inl⟩
  | cons b bs ih =>
    intro s
    obtain ⟨t, hrun, hkept, horigin⟩ := ih (answerBool (bindPort b.1 b.2 s))
    have howner (p : Port) : (answerBool (bindPort b.1 b.2 s)).bus.portOwner p =
        if p = b.1 ∧ s.bus.portOwner b.1 = none then some b.2 else s.bus.portOwner p :=
      portOwner_bindPort b.1 p b.2 s
    refine ⟨t, hrun, fun p m hp => hkept p m ?_, fun p m hp => ?_⟩
    · rw [howner, if_neg, hp]
      rintro ⟨rfl, hnone⟩
      simp [hp] at hnone
    · rcases horigin p m hp with hp | hmem
      · rw [howner] at hp
        split at hp
        next hnew =>
          cases hp
          exact .inr (by simp [hnew.1])
        next => exact .inl hp
      · exact .inr (List.mem_cons_of_mem _ hmem)

end Sys2Proof.Machine
end

section
/-! PROOF. The timer calls (40_bus.md R147-R150, R156, R157): each edits the module's first entry, where
the timer list is cut at it, or finds none. -/

namespace Sys2Proof.Machine

/-! ### The timer list as a field -/

/-- The state with another timer list. -/
def State.withTimers (s : State) (ts : List Timer) : State := s.setBus { s.bus with timers := ts }

@[simp] theorem State.withTimers_timers (s : State) (ts : List Timer) :
    (s.withTimers ts).bus.timers = ts := rfl

@[simp] theorem State.withTimers_withTimers (s : State) (ts us : List Timer) :
    (s.withTimers ts).withTimers us = s.withTimers us := rfl

@[simp] theorem State.withTimers_self (s : State) : s.withTimers s.bus.timers = s := rfl

/-- Replacing the entry the list is cut at. -/
theorem State.setTimer_append {s : State} {pre post : List Timer} {e : Timer}
    (hs : s.bus.timers = pre ++ e :: post) (x : Timer) :
    s.setTimer pre.length x = s.withTimers (pre ++ x :: post) := by
  simp [State.setTimer, State.withTimers, hs]

/-! ### The calls with and without an entry -/

theorem normalizeInterval_eq_intervalFor (m : ModuleRef) (i : Int) :
    normalizeInterval Config.params m i = intervalFor m i := rfl

theorem timerIndex_eq_none {ts : List Timer} {m : ModuleRef} (h : ∀ e ∈ ts, e.owner ≠ m) :
    timerIndex ts m = none := by
  simpa [timerIndex] using h

section
variable {s : State} {pre post : List Timer} {e : Timer} {m : ModuleRef}

theorem requestTimer_of_entry (hs : s.bus.timers = pre ++ e :: post) (he : e.owner = m)
    (hpre : ∀ x ∈ pre, x.owner ≠ m) (C : Params) (i : Int) (a : Bool) :
    requestTimer C m i a s =
      s.withTimers (pre ++ Timer.mk m (normalizeInterval C m i) a 0 :: post) := by
  simp [requestTimer, hs, timerIndex_append he hpre, State.setTimer_append hs]

theorem requestTimer_of_none (hs : ∀ e ∈ s.bus.timers, e.owner ≠ m) (C : Params) (i : Int)
    (a : Bool) :
    requestTimer C m i a s =
      s.withTimers (s.bus.timers ++ [Timer.mk m (normalizeInterval C m i) a 0]) := by
  rw [requestTimer, timerIndex_eq_none hs]
  rfl

theorem updateTimer_of_entry (hs : s.bus.timers = pre ++ e :: post) (he : e.owner = m)
    (hpre : ∀ x ∈ pre, x.owner ≠ m) (f : Timer → Timer) :
    updateTimer m f s = s.withTimers (pre ++ f e :: post) := by
  simp [updateTimer, hs, timerIndex_append he hpre, State.withTimers, List.modify_eq_set_getElem?]

theorem updateTimer_of_none (hs : ∀ e ∈ s.bus.timers, e.owner ≠ m) (f : Timer → Timer) :
    updateTimer m f s = s.record (.noTimer m) := by
  rw [updateTimer, timerIndex_eq_none hs]

theorem getUpdateInterval_of_entry (hs : s.bus.timers = pre ++ e :: post) (he : e.owner = m)
    (hpre : ∀ x ∈ pre, x.owner ≠ m) (C : Params) : getUpdateInterval C m s = (s, e.interval) := by
  have hfind : s.bus.timers.find? (fun x => x.owner == m) = some e := by
    rw [hs, List.find?_append, List.find?_eq_none.2 (by simpa using hpre), Option.none_or,
      List.find?_cons_of_pos (by simpa using he)]
  rw [getUpdateInterval, hfind]

theorem getUpdateInterval_of_none (hs : ∀ e ∈ s.bus.timers, e.owner ≠ m) (C : Params) :
    getUpdateInterval C m s = (s.record (.noTimer m), (C.defaultIntervalUs m : Nat)) := by
  rw [getUpdateInterval, List.find?_eq_none.2 (by simpa using hs)]

end

/-! ### Transactions -/

theorem exec_callRequestTimer (m : ModuleRef) (i : Int) (a : Bool) (s : State) :
    exec (.callRequestTimer m i a) s =
      .next ((requestTimer Config.params m i a s).answer .unit) := rfl

theorem exec_callSetTimerActive (m : ModuleRef) (a : Bool) (s : State) :
    exec (.callSetTimerActive m a) s =
      .next ((updateTimer m (fun e => { e with active := a }) s).answer .unit) := rfl

theorem exec_callResetTimer (m : ModuleRef) (i : Int) (s : State) :
    exec (.callResetTimer m i) s =
      .next ((updateTimer m (fun e => { e with interval := intervalFor m i, acc := 0 }) s).answer
        .unit) := rfl

/-- The interval of a module is its timer's: the two calls are one (log 28). -/
theorem exec_callSetUpdateInterval (m : ModuleRef) (i : Int) (s : State) :
    exec (.callSetUpdateInterval m i) s = exec (.callResetTimer m i) s := rfl

theorem exec_callGetUpdateInterval (m : ModuleRef) (s : State) :
    exec (.callGetUpdateInterval m) s =
      .next (answerNat (getUpdateInterval Config.params m s)) := rfl

/-- Settles O22: `requestTimer` with and without an entry. -/
theorem requestTimerRule : Obligations.RequestTimerRule := by
  refine fun s m i a => ⟨fun hnone => ?_, fun pre e post hs he hpre => ?_⟩
  · rw [exec_callRequestTimer, requestTimer_of_none hnone]
    rfl
  · rw [exec_callRequestTimer, requestTimer_of_entry hs he hpre]
    rfl

/-- Settles O23: `updateTimer` and `getUpdateInterval` with and without an entry. -/
theorem timerCalls : Obligations.TimerCalls := by
  refine fun s m i a => ⟨fun pre e post hs he hpre => ?_, fun hnone => ?_⟩
  · simp only [exec_callSetTimerActive, exec_callSetUpdateInterval, exec_callResetTimer,
      exec_callGetUpdateInterval, updateTimer_of_entry hs he hpre,
      getUpdateInterval_of_entry hs he hpre]
    exact ⟨rfl, rfl, rfl, rfl⟩
  · simp only [exec_callSetTimerActive, exec_callSetUpdateInterval, exec_callResetTimer,
      exec_callGetUpdateInterval, updateTimer_of_none hnone, getUpdateInterval_of_none hnone]
    exact ⟨rfl, rfl, rfl, rfl⟩

end Sys2Proof.Machine
end

section
/-! PROOF. TICK (40_bus.md R152-R154): what a visit does to the entry the timer list is cut at, what the
VGA's update may see and change, and a run of visits, quiet or firing. -/

namespace Sys2Proof.Machine

/-! ### One entry -/

/-- The entry fires in a tick of `d` microseconds. -/
def Timer.due (d : Nat) (e : Timer) : Bool := e.active && decide (e.interval ≤ e.acc + d)

/-- What a tick leaves of the entry before any update changes it: the surplus of a firing, or the time
accumulated. -/
def Timer.visited (d : Nat) (e : Timer) : Timer :=
  if e.due d then { e with acc := e.acc + d - e.interval }
  else if e.active then { e with acc := e.acc + d } else e

theorem Timer.due_eq_false_iff {d : Nat} {e : Timer} :
    e.due d = false ↔ (e.active = true → e.acc + d < e.interval) := by
  simp [Timer.due]

theorem Timer.visited_of_due {d : Nat} {e : Timer} (h : e.due d = true) :
    e.visited d = { e with acc := e.acc + d - e.interval } := by
  simp [Timer.visited, h]

theorem Timer.map_visited_of_quiet {d : Nat} {ts : List Timer} (h : ∀ x ∈ ts, x.due d = false) :
    ts.map (Timer.visited d) = ts.map fun x => if x.active then { x with acc := x.acc + d } else x :=
  List.map_congr_left fun x hx => by simp [Timer.visited, h x hx]

/-- A visit is decided by the entry alone: it accumulates, or it fires and its owner's update runs. -/
theorem tickEntry_append {s : State} {pre post : List Timer} {e : Timer}
    (hs : s.bus.timers = pre ++ e :: post) (C : Params) (d : Nat) :
    tickEntry C d s pre.length =
      if e.due d then
        runUpdate C e.owner
          ((s.withTimers (pre ++ e.visited d :: post)).emit (.update e.owner))
      else s.withTimers (pre ++ e.visited d :: post) := by
  have hk : s.bus.timers[pre.length]? = some e := by simp [hs]
  have hself : s.withTimers (pre ++ e :: post) = s := by rw [← hs, State.withTimers_self]
  simp only [tickEntry, hk, State.setTimer_append hs]
  cases ha : e.active with
  | false => simp [Timer.visited, Timer.due, ha, hself]
  | true =>
    by_cases hi : e.interval ≤ e.acc + d <;> simp [Timer.visited, Timer.due, ha, hi]

/-! ### A run of entries -/

/-- The visits of the `n` entries from position `k`. -/
def visitEntries (C : Params) (d k n : Nat) (s : State) : State :=
  (List.range' k n).foldl (tickEntry C d) s

@[simp] theorem visitEntries_zero (C : Params) (d k : Nat) (s : State) :
    visitEntries C d k 0 s = s := rfl

theorem visitEntries_succ (C : Params) (d k n : Nat) (s : State) :
    visitEntries C d k (n + 1) s = visitEntries C d (k + 1) n (tickEntry C d s k) := rfl

theorem visitEntries_add (C : Params) (d k m n : Nat) (s : State) :
    visitEntries C d k (m + n) s = visitEntries C d (k + m) n (visitEntries C d k m s) := by
  simp only [visitEntries, ← List.range'_append_1, List.foldl_append]

/-- A run cut at one of its entries. -/
theorem visitEntries_append (C : Params) (d : Nat) (pre post : List Timer) (e : Timer) (s : State) :
    visitEntries C d 0 (pre ++ e :: post).length s =
      visitEntries C d (pre.length + 1) post.length
        (tickEntry C d (visitEntries C d 0 pre.length s) pre.length) := by
  rw [List.length_append, List.length_cons, visitEntries_add, visitEntries_succ, Nat.zero_add]

theorem visitEntries_grows (C : Params) (d k n : Nat) (s : State) :
    HistoryGrows s (visitEntries C d k n s) :=
  HistoryGrows.foldl (tickEntry_grows C d) _ s

/-- Entries that do not come due accumulate, and nothing else happens. -/
theorem visitEntries_quiet {s : State} {pre ts post : List Timer} (C : Params) {d : Nat}
    (hs : s.bus.timers = pre ++ ts ++ post) (hquiet : ∀ x ∈ ts, x.due d = false) :
    visitEntries C d pre.length ts.length s =
      s.withTimers (pre ++ ts.map (Timer.visited d) ++ post) := by
  induction ts generalizing s pre with
  | nil =>
    rw [List.append_nil] at hs
    simp [← hs]
  | cons e ts ih =>
    obtain ⟨he, hts⟩ := List.forall_mem_cons.1 hquiet
    have hcut : s.bus.timers = pre ++ e :: (ts ++ post) := by simp [hs]
    rw [List.length_cons, visitEntries_succ, tickEntry_append hcut, he]
    simpa using ih (pre := pre ++ [e.visited d])
      (s := s.withTimers (pre ++ e.visited d :: (ts ++ post))) (by simp) hts

/-- Quiet entries at the end of the list, after one already visited. -/
theorem visitEntries_quiet_after {s : State} {pre post : List Timer} {e : Timer} (C : Params)
    {d : Nat} (hs : s.bus.timers = pre ++ e :: post) (hquiet : ∀ x ∈ post, x.due d = false) :
    visitEntries C d (pre.length + 1) post.length s =
      s.withTimers (pre ++ e :: post.map (Timer.visited d)) := by
  simpa using visitEntries_quiet (pre := pre ++ [e]) (post := []) C (by simpa using hs) hquiet

/-- The state as a tick of `d` microseconds starts it: the clock advanced (10_state.md R24). -/
def State.advanceClock (s : State) (d : Nat) : State :=
  s.setBus { s.bus with clock := s.bus.clock + d }

@[simp] theorem State.advanceClock_timers (s : State) (d : Nat) :
    (s.advanceClock d).bus.timers = s.bus.timers := rfl

theorem exec_callTick (d : Nat) (s : State) :
    exec (.callTick d) s = .next ((endIteration
      (visitEntries Config.params d 0 s.bus.timers.length (s.advanceClock d))).answer .unit) := by
  show Host.Outcome.next ((tick Config.params d s).answer .unit) = _
  rw [tick, List.range_eq_range']
  rfl

theorem endIteration_eq (s : State) :
    endIteration s = { s with live := s.live && !s.shutdown } := by
  cases h : s.shutdown with
  | true => simp [endIteration, stopOp, h]
  | false =>
    have hlive : (s.live && !false) = s.live := Bool.and_true _
    rw [hlive, ← h]
    exact if_neg (by simp [h])

/-- Settles O24: every visit is quiet. -/
theorem tickWithoutFiring : Obligations.TickWithoutFiring := by
  intro s d h
  have hquiet : ∀ x ∈ s.bus.timers, x.due d = false := fun x hx =>
    Timer.due_eq_false_iff.2 (h x hx)
  have hrun := visitEntries_quiet (s := s.advanceClock d) (pre := []) (post := []) Config.params
    (by simp) hquiet
  rw [Timer.map_visited_of_quiet hquiet, List.nil_append, List.append_nil, List.length_nil] at hrun
  rw [exec_callTick, hrun, endIteration_eq]
  rfl

/-! ### The VGA's update -/

/-- From an adapter `v` the operation changes the adapter and appends outputs, none of them an `Update`,
the same whatever the rest of the state is. -/
def ActsFrom (v : Vga) (f : State → State) : Prop :=
  ∃ w es, es.filterMap updateOwner = [] ∧
    ∀ s, s.vga = v → f s = { s with vga := w, out := s.out ++ es }

/-- The operation sees and changes nothing but the adapter and the outputs. -/
def ActsOnAdapter (f : State → State) : Prop := ∀ v, ActsFrom v f

theorem ActsFrom.congr {v : Vga} {f g : State → State} (hf : ActsFrom v f)
    (h : ∀ s, s.vga = v → g s = f s) : ActsFrom v g := by
  obtain ⟨w, es, hes, hacts⟩ := hf
  exact ⟨w, es, hes, fun s hs => (h s hs).trans (hacts s hs)⟩

theorem ActsOnAdapter.id : ActsOnAdapter id := fun v =>
  ⟨v, [], rfl, by rintro s rfl; simp⟩

theorem ActsOnAdapter.comp {f g : State → State} (hg : ActsOnAdapter g) (hf : ActsOnAdapter f) :
    ActsOnAdapter (g ∘ f) := by
  intro v
  obtain ⟨w, es, hes, hfs⟩ := hf v
  obtain ⟨x, es', hes', hgs⟩ := hg w
  refine ⟨x, es ++ es', by rw [List.filterMap_append, hes, hes', List.append_nil], fun s hs => ?_⟩
  rw [Function.comp_apply, hfs s hs, hgs _ rfl]
  simp

theorem ActsOnAdapter.foldl {α : Type} {f : State → α → State}
    (hf : ∀ x, ActsOnAdapter fun s => f s x) (xs : List α) :
    ActsOnAdapter fun s => xs.foldl f s := by
  induction xs with
  | nil => exact .id
  | cons x xs ih => exact ih.comp (hf x)

/-- One output that is no `Update`, and a new adapter. -/
theorem actsFrom_emit_setVga (v w : Vga) {e : OutEvent} (he : updateOwner e = none) :
    ActsFrom v fun s => (s.emit e).setVga w :=
  ⟨w, [e], by simp [he], fun _ _ => rfl⟩

theorem redrawTile_actsOnAdapter (C : Params) (size : Nat × Nat) (t : Tile) :
    ActsOnAdapter fun s => redrawTile C size s t := by
  intro v
  by_cases h : (v.dirty t && onScreen C size t) = true
  · refine (actsFrom_emit_setVga v (clearTile t v) (e := .tileRedraw t (C.render v (.tile t)))
      rfl).congr ?_
    rintro s rfl
    exact if_pos h
  · refine (ActsOnAdapter.id v).congr ?_
    rintro s rfl
    exact if_neg h

theorem textUpdate_actsOnAdapter (C : Params) (size : Nat × Nat) :
    ActsOnAdapter (textUpdate C size) := fun v =>
  (actsFrom_emit_setVga v
    (((gridTiles C).filter (onScreen C size)).foldl (fun v t => clearTile t v) v)
    (e := .textRedraw v.startAddr v.cursor v.textCols (v.textRows C) (C.render v .text))
    rfl).congr (by rintro s rfl; rfl)

theorem announceSize_actsOnAdapter (size : Nat × Nat) : ActsOnAdapter (announceSize size) := by
  intro v
  by_cases h : v.lastSize = some size
  · refine (ActsOnAdapter.id v).congr ?_
    rintro s rfl
    exact if_pos h
  · refine (actsFrom_emit_setVga v (markAll { v with lastSize := some size })
      (e := .resize size.1 size.2) rfl).congr ?_
    rintro s rfl
    exact if_neg h

/-- The redraws of an update, in the mode the adapter is in (43_vga_display.md R297). -/
def redrawScreen (C : Params) (size : Nat × Nat) (s : State) : State :=
  if s.vga.graphicsMode then graphicsUpdate C size s else textUpdate C size s

theorem redrawScreen_actsOnAdapter (C : Params) (size : Nat × Nat) :
    ActsOnAdapter (redrawScreen C size) := by
  intro v
  by_cases h : v.graphicsMode = true
  · refine (ActsOnAdapter.foldl (redrawTile_actsOnAdapter C size) (gridTiles C) v).congr ?_
    rintro s rfl
    exact if_pos h
  · refine (textUpdate_actsOnAdapter C size v).congr ?_
    rintro s rfl
    exact if_neg h

theorem vgaUpdate_actsOnAdapter (C : Params) : ActsOnAdapter (vgaUpdate C) := by
  intro v
  by_cases h : (!v.graphicsMode && v.msl == 0) = true
  · refine (ActsOnAdapter.id v).congr ?_
    rintro s rfl
    exact if_pos h
  · refine ((redrawScreen_actsOnAdapter C (v.screenSize C)).comp
      (announceSize_actsOnAdapter (v.screenSize C)) v).congr ?_
    rintro s rfl
    exact if_neg h

/-! ### The outputs of a visit -/

/-- The owners of the timer entries, in registration order. -/
def State.timerOwners (s : State) : List ModuleRef := s.bus.timers.map Timer.owner

theorem setTimer_timerOwners {s : State} {k : Nat} {e e' : Timer} (hk : s.bus.timers[k]? = some e)
    (he : e'.owner = e.owner) : (s.setTimer k e').timerOwners = s.timerOwners := by
  obtain ⟨hlt, rfl⟩ := List.getElem?_eq_some_iff.1 hk
  show (s.bus.timers.set k e').map Timer.owner = s.bus.timers.map Timer.owner
  rw [List.map_set, he, ← List.getElem_map Timer.owner (h := by simpa), List.set_getElem_self]

theorem setTimer_acc_timerOwners {s : State} {k : Nat} {e : Timer}
    (hk : s.bus.timers[k]? = some e) (n : Nat) :
    (s.setTimer k { e with acc := n }).timerOwners = s.timerOwners :=
  setTimer_timerOwners hk rfl

@[simp] theorem State.setTimer_out (s : State) (k : Nat) (e : Timer) :
    (s.setTimer k e).out = s.out := rfl

/-- A request renews an entry of the same owner, or registers a new last one. -/
theorem requestTimer_timerOwners (C : Params) (m : ModuleRef) (i : Int) (a : Bool) (s : State) :
    s.timerOwners <+: (requestTimer C m i a s).timerOwners := by
  rcases requestTimer_cases C m i a s with ⟨k, hk, h⟩ | ⟨-, h⟩ <;> rw [h]
  · obtain ⟨hlt, howner⟩ := timerIndex_some hk
    rw [setTimer_timerOwners (List.getElem?_eq_getElem hlt) howner.symm]
  · simp [State.timerOwners]

theorem updateTimer_timerOwners (m : ModuleRef) {f : Timer → Timer}
    (hf : ∀ e, (f e).owner = e.owner) (s : State) :
    s.timerOwners <+: (updateTimer m f s).timerOwners := by
  rcases updateTimer_cases m f s with ⟨k, hk, h⟩ | ⟨-, h⟩ <;> rw [h]
  · obtain ⟨hlt, -⟩ := timerIndex_some hk
    rw [List.modify_eq_set_get f hlt]
    exact (setTimer_timerOwners (List.getElem?_eq_getElem hlt) (hf _)).symm ▸ List.prefix_rfl
  · exact List.prefix_rfl

theorem applyUpdateCall_timerOwners (C : Params) (m : ModuleRef) (s : State) (c : UpdateCall) :
    s.timerOwners <+: (applyUpdateCall C m s c).timerOwners := by
  cases c with
  | setIrq n | clearIrq n =>
    simp only [applyUpdateCall]
    rcases changeIrq_cases _ n s with ⟨k, -, h⟩ | ⟨-, h⟩ <;> rw [h] <;> exact List.prefix_rfl
  | requestIrq k =>
    simp only [applyUpdateCall]
    rcases requestIrq_cases C k s with ⟨n, -, h⟩ | ⟨n, -, -, h⟩ | ⟨-, -, h⟩ <;> rw [h] <;>
      exact List.prefix_rfl
  | setTimerActive k a =>
    exact updateTimer_timerOwners k (f := fun e => { e with active := a }) (fun _ => rfl) s
  | resetTimer k i =>
    exact updateTimer_timerOwners k
      (f := fun e => { e with interval := normalizeInterval C k i, acc := 0 }) (fun _ => rfl) s
  | requestTimer k i a => exact requestTimer_timerOwners C k i a s
  | reportError => exact List.prefix_rfl

/-- A module's update appends outputs, none of them an `Update`, and registers entries at most at the
end (R153). -/
theorem runUpdate_events (C : Params) (m : ModuleRef) (s : State) :
    ∃ es, (runUpdate C m s).out = s.out ++ es ∧ es.filterMap updateOwner = [] ∧
      s.timerOwners <+: (runUpdate C m s).timerOwners := by
  rcases runUpdate_cases C m s with ⟨-, h⟩ | ⟨-, h⟩ <;> rw [h]
  · obtain ⟨w, es, hes, hacts⟩ := vgaUpdate_actsOnAdapter C s.vga
    rw [hacts s rfl]
    exact ⟨es, rfl, hes, List.prefix_rfl⟩
  · have hcall (t : State) (c : UpdateCall) : (applyUpdateCall C m t c).out = t.out :=
      (applyUpdateCall_changesOnly (A := (· = .raised)) rfl C m t c).outputs nofun
    obtain ⟨hout, howners⟩ := foreignUpdate_keeps (C := C) (m := m) (s := s)
      (P := fun t => t.out = s.out ∧ s.timerOwners <+: t.timerOwners)
      (fun t c ht => ⟨(hcall t c).trans ht.1, ht.2.trans (applyUpdateCall_timerOwners C m t c)⟩)
      ⟨rfl, List.prefix_rfl⟩
    exact ⟨[], by simpa using hout, rfl, howners⟩

/-- A visit emits at most one `Update`, of the owner the position has had since the tick's start. -/
theorem tickEntry_events (C : Params) (d : Nat) {s : State} {pre : List ModuleRef} {o : ModuleRef}
    (ho : pre ++ [o] <+: s.timerOwners) :
    ∃ es, (tickEntry C d s pre.length).out = s.out ++ es ∧
      (es.filterMap updateOwner).Sublist [o] ∧
      s.timerOwners <+: (tickEntry C d s pre.length).timerOwners := by
  rcases tickEntry_cases C d s pre.length with h | ⟨e, he, -, -, h⟩ | ⟨e, he, -, -, h⟩ <;> rw [h]
  · exact ⟨[], by simp, by simp, List.prefix_rfl⟩
  · exact ⟨[], by simp, by simp, by rw [setTimer_acc_timerOwners he]⟩
  · obtain ⟨es, hout, hes, howners⟩ := runUpdate_events C e.owner
      ((s.setTimer pre.length { e with acc := e.acc + d - e.interval }).emit (.update e.owner))
    have heo : e.owner = o := by
      have hget : s.timerOwners[pre.length]? = some e.owner := by simp [State.timerOwners, he]
      obtain ⟨rest, hrest⟩ := ho
      simpa [← hrest] using hget.symm
    refine ⟨.update e.owner :: es, by simp [hout], by simp [updateOwner, hes, heo], ?_⟩
    rwa [← setTimer_acc_timerOwners he]

/-- A run of visits emits `Update`s of the positions' owners at the tick's start, in order, each at most
once: an update registers no entry before the end of the list (log 19). -/
theorem visitEntries_events (C : Params) (d : Nat) (os : List ModuleRef) {pre : List ModuleRef}
    {s : State} (ho : pre ++ os <+: s.timerOwners) :
    ∃ es, (visitEntries C d pre.length os.length s).out = s.out ++ es ∧
      (es.filterMap updateOwner).Sublist os := by
  induction os generalizing pre s with
  | nil => exact ⟨[], by simp, by simp⟩
  | cons o os ih =>
    rw [List.append_cons] at ho
    obtain ⟨es, hout, hes, howners⟩ := tickEntry_events C d ((List.prefix_append ..).trans ho)
    obtain ⟨es', hout', hes'⟩ := ih (ho.trans howners)
    rw [List.length_append, List.length_singleton] at hout'
    refine ⟨es ++ es', ?_, ?_⟩
    · rw [List.length_cons, visitEntries_succ, hout', hout, List.append_assoc]
    · rw [List.filterMap_append]
      exact hes.append hes'

/-! ### The first firings -/

/-- The entries before the first due one accumulate; then it fires and its owner's update runs. -/
theorem visitEntries_firstDue {s : State} {pre post : List Timer} {e : Timer} (C : Params) {d : Nat}
    (hs : s.bus.timers = pre ++ e :: post) (hpre : ∀ x ∈ pre, x.due d = false)
    (hdue : e.due d = true) :
    visitEntries C d 0 s.bus.timers.length s =
      visitEntries C d (pre.length + 1) post.length (runUpdate C e.owner
        ((s.withTimers (pre.map (Timer.visited d) ++ e.visited d :: post)).emit
          (.update e.owner))) := by
  have hquiet : visitEntries C d 0 pre.length s =
      s.withTimers (pre.map (Timer.visited d) ++ e :: post) :=
    visitEntries_quiet (pre := []) C hs hpre
  have hfire := tickEntry_append (s := s.withTimers (pre.map (Timer.visited d) ++ e :: post))
    rfl C d
  rw [List.length_map, if_pos hdue, State.withTimers_withTimers] at hfire
  rw [hs, visitEntries_append, hquiet, hfire]

theorem runUpdate_of_video {C : Params} {m : ModuleRef} {s : State} (hm : s.isVideo m = true) :
    runUpdate C m s = vgaUpdate C s := if_pos hm

/-- The VGA's update inside a tick does to adapter and outputs what VGA_UPDATE does (R153). -/
theorem exec_callVgaUpdate_of_actsFrom {s : State} {w : Vga} {es : List OutEvent}
    (h : ∀ t : State, t.vga = s.vga →
      vgaUpdate Config.params t = { t with vga := w, out := t.out ++ es }) :
    exec .callVgaUpdate s = .next { s with vga := w, out := s.out ++ es, result := .unit } := by
  show Host.Outcome.next ((vgaUpdate Config.params s).answer .unit) = _
  rw [h s rfl]
  rfl

/-- Settles O25: the entries before the due one are quiet; it fires, and what follows only appends. When
it is the VGA's, its update acts on adapter and outputs as VGA_UPDATE does, and the entries after it are
quiet. -/
theorem tickRunsTheVgaUpdate : Obligations.TickRunsTheVgaUpdate := by
  intro s d pre post e hs hactive hle hpre
  have hdue : e.due d = true := by simp [Timer.due, hactive, hle]
  have hprequiet : ∀ x ∈ pre, x.due d = false := fun x hx => Timer.due_eq_false_iff.2 (hpre x hx)
  have hrun := visitEntries_firstDue (s := s.advanceClock d) Config.params hs hprequiet hdue
  simp only [exec_callTick, ← State.advanceClock_timers s d, hrun]
  refine ⟨?_, fun hvideo hpost => ?_⟩
  · obtain ⟨-, es, hes⟩ := ((runUpdate_grows Config.params e.owner _).trans
      (visitEntries_grows Config.params d (pre.length + 1) post.length _)).trans
        (endIteration_grows _)
    refine ⟨_, es, rfl, hes.symm.trans ?_⟩
    exact List.append_assoc s.out [.update e.owner] es
  · have hpostquiet : ∀ x ∈ post, x.due d = false := fun x hx =>
      Timer.due_eq_false_iff.2 (hpost x hx)
    obtain ⟨w, es, -, hacts⟩ := vgaUpdate_actsOnAdapter Config.params s.vga
    rw [← List.length_map (Timer.visited d) (as := pre), runUpdate_of_video, hacts,
      visitEntries_quiet_after (e := e.visited d) _ ?_ hpostquiet, endIteration_eq,
      Timer.map_visited_of_quiet hprequiet, Timer.map_visited_of_quiet hpostquiet,
      Timer.visited_of_due hdue]
    · exact ⟨_, _, es, rfl, exec_callVgaUpdate_of_actsFrom hacts, rfl, rfl⟩
    · rfl
    · rfl
    · exact hvideo

/-- A visit that fires at most an entry of the VGA: its update acts on adapter and outputs alone. -/
theorem tickEntry_video {s : State} {pre post : List Timer} {e : Timer} (C : Params) {d : Nat}
    (hs : s.bus.timers = pre ++ e :: post) (hvideo : e.due d = true → s.isVideo e.owner = true) :
    ∃ w es, tickEntry C d s pre.length =
        { s with
          bus := { s.bus with timers := pre ++ e.visited d :: post }
          vga := w
          out := s.out ++ es } ∧
      es.filterMap updateOwner = if e.due d then [e.owner] else [] := by
  rw [tickEntry_append hs]
  cases hdue : e.due d with
  | false => exact ⟨s.vga, [], by rw [List.append_nil]; rfl, rfl⟩
  | true =>
    obtain ⟨w, es, hes, hacts⟩ := vgaUpdate_actsOnAdapter C s.vga
    refine ⟨w, .update e.owner :: es, ?_, by simp [updateOwner, hes]⟩
    rw [if_pos rfl, runUpdate_of_video, hacts]
    · simp [State.withTimers, State.setBus, State.emit]
    · rfl
    · exact hvideo hdue

/-- While only the VGA's entries come due, every one of them fires, in order: its update changes no
entry. -/
theorem visitEntries_video {s : State} {pre ts post : List Timer} {C : Params} {d : Nat}
    (hs : s.bus.timers = pre ++ ts ++ post)
    (hvideo : ∀ x ∈ ts, x.due d = true → s.isVideo x.owner = true) :
    ∃ w es, visitEntries C d pre.length ts.length s =
        { s with
          bus := { s.bus with timers := pre ++ ts.map (Timer.visited d) ++ post }
          vga := w
          out := s.out ++ es } ∧
      es.filterMap updateOwner = (ts.filter (Timer.due d)).map Timer.owner := by
  induction ts generalizing s pre with
  | nil =>
    rw [List.append_nil] at hs
    exact ⟨s.vga, [], by simp [← hs], rfl⟩
  | cons e ts ih =>
    obtain ⟨he, hts⟩ := List.forall_mem_cons.1 hvideo
    have hcut : s.bus.timers = pre ++ e :: (ts ++ post) := by simp [hs]
    obtain ⟨w, es, htick, hes⟩ := tickEntry_video C hcut he
    obtain ⟨w', es', hrun, hes'⟩ := ih (s := tickEntry C d s pre.length)
      (pre := pre ++ [e.visited d]) (by simp [htick]) (by rw [htick]; exact hts)
    refine ⟨w', es ++ es', ?_, ?_⟩
    · rw [List.length_append, List.length_singleton] at hrun
      rw [List.length_cons, visitEntries_succ, hrun, htick]
      simp
    · rw [List.filterMap_append, hes, hes', List.filter_cons]
      split <;> rfl

/-- When every due entry before a due one is the VGA's, all of them fire, in order, and then it does. -/
theorem visitEntries_fires {s : State} {pre post : List Timer} {e : Timer} (C : Params) {d : Nat}
    (hs : s.bus.timers = pre ++ e :: post) (hdue : e.due d = true)
    (hvideo : ∀ x ∈ pre, x.due d = true → s.isVideo x.owner = true) :
    ∃ es, s.out ++ es <+: (visitEntries C d 0 s.bus.timers.length s).out ∧
      es.filterMap updateOwner = ((pre ++ [e]).filter (Timer.due d)).map Timer.owner := by
  obtain ⟨w, es, hrun, hes⟩ := visitEntries_video (pre := []) (C := C) hs hvideo
  rw [List.nil_append, List.length_nil] at hrun
  have hout : (visitEntries C d 0 pre.length s).out = s.out ++ es := by rw [hrun]
  have hfire := tickEntry_append (s := visitEntries C d 0 pre.length s) (e := e)
    (pre := pre.map (Timer.visited d)) (post := post) (by rw [hrun]) C d
  rw [List.length_map, if_pos hdue] at hfire
  have hgrows := (runUpdate_grows C e.owner (((visitEntries C d 0 pre.length s).withTimers
    (pre.map (Timer.visited d) ++ e.visited d :: post)).emit (.update e.owner))).trans
      (visitEntries_grows C d (pre.length + 1) post.length _)
  refine ⟨es ++ [.update e.owner], ?_, by simp [hes, updateOwner, hdue]⟩
  rw [hs, visitEntries_append, hfire, ← List.append_assoc, ← hout]
  exact hgrows.2

/-- Settles O26: `visitEntries_events` from above, `visitEntries_fires` from below. -/
theorem tickFiresInRegistrationOrder : Obligations.TickFiresInRegistrationOrder := by
  intro s d
  obtain ⟨es, hout, hes⟩ := visitEntries_events Config.params d s.timerOwners (pre := [])
    (s := s.advanceClock d) List.prefix_rfl
  rw [State.timerOwners, List.length_map, List.length_nil] at hout
  refine ⟨_, es, exec_callTick d s, ?_, hes, fun pre post e hs hdue hpre => ?_⟩
  · rw [endIteration_eq]
    exact hout
  · obtain ⟨es', hgrows, hes'⟩ := visitEntries_fires (s := s.advanceClock d) Config.params hs hdue
      hpre
    rw [State.advanceClock_timers, hout] at hgrows
    exact hes' ▸ ((List.prefix_append_right_inj _).1 hgrows).filterMap updateOwner

end Sys2Proof.Machine
end

section
/-! PROOF. WIRE (40_bus.md R160, R161): a required type is missing exactly when no module of the
registry has it, and the pass logs the missing ones module by module. -/

namespace Sys2Proof.Machine

/-- `Get(t)` finds nothing exactly when no module has the type (R161). -/
theorem registryGet_isNone (ms : List Module) (k : ModuleType) :
    (registryGet ms k).isNone = !ms.any fun m => m.kind == k := by
  rw [registryGet, ← Option.not_isSome, List.findIdx?_isSome]

theorem missingTypes_eq (ms : List Module) (m : Module) :
    missingTypes ms m = m.required.filter fun k => !ms.any fun y => y.kind == k := by
  simp only [missingTypes, registryGet_isNone]

theorem missingTypes_isEmpty_iff (ms : List Module) (m : Module) :
    (missingTypes ms m).isEmpty = true ↔ ∀ k ∈ m.required, HasKind ms k := by
  simp [missingTypes_eq, HasKind, List.filter_eq_nil_iff]

/-- The wiring errors, one for each module of the list with a missing type, at its position. -/
theorem wiringErrors_eq (ms xs : List Module) (k : ModuleRef) :
    wiringErrors ms xs k = (xs.zipIdx k).filterMap fun x =>
      if missingTypes ms x.1 = [] then none else some (.wiring x.2 (missingTypes ms x.1)) := by
  induction xs generalizing k with
  | nil => rfl
  | cons m xs ih =>
    rw [wiringErrors, ih, List.zipIdx_cons, List.filterMap_cons]
    by_cases h : missingTypes ms m = [] <;> simp [h]

theorem exec_callWire (s : State) : exec .callWire s = .next ((wireOp s).answer .unit) := rfl

/-- Settles O28: the flags by `missingTypes_isEmpty_iff`, the log by `wiringErrors_eq`. -/
theorem wireRule : Obligations.WireRule := by
  refine fun s => ⟨_, exec_callWire s, ?_, fun k m hk => ⟨(missingTypes s.modules m).isEmpty, ?_,
    missingTypes_isEmpty_iff s.modules m⟩, ?_⟩
  · exact List.length_map ..
  · show (s.modules.map (wireModule s.modules))[k]? = _
    rw [List.getElem?_map, hk]
    rfl
  · simp only [← missingTypes_eq, ← wiringErrors_eq]
    rfl

end Sys2Proof.Machine
end

section
/-! PROOF. The VGA's ports under the gate (41_vga_ports.md R180, R181): an answered access is one call of
the port's handler, which of the 22 ports the gate lets through, and the registers stored whole. -/

namespace Sys2Proof.Machine

/-! ### Dispatch (40_bus.md R143, R145) -/

/-- An answered read runs the port's handler; a VGA port's row is this one at its own port. -/
theorem exec_inPort_of_answers {p : Port} {s : State} (ha : s.VgaAnswers p) :
    exec (.inPort p) s = .next (answerByte (vgaReadHandler Config.params p s)) := by
  rw [exec_inPort, portRead_of_answers ha]

/-- An answered write runs the port's handler; a VGA port's row is this one at its own port. -/
theorem exec_outPort_of_answers {p : Port} {d : Byte} {s : State} (ha : s.VgaAnswers p) :
    exec (.outPort p d) s = .next ((vgaWriteHandler p d s).answer .unit) := by
  rw [exec_outPort, portWrite_of_answers ha]

/-! Whether the VGA answers depends on port map, modules and Misc Output alone. -/

@[simp] theorem vgaAnswers_answer {s : State} {r : Result} {p : Port} :
    (s.answer r).VgaAnswers p ↔ s.VgaAnswers p := .rfl

/-! ### The gate (R180, R181) -/

/-- The ports of the mono group. -/
abbrev monoPorts : List Port := [0x3B4#16, 0x3B5#16, 0x3BA#16]

/-- The ports of the colour group. -/
abbrev colourPorts : List Port := [0x3D4#16, 0x3D5#16, 0x3DA#16]

/-- A decidable property of the ports of a list, checked port by port. -/
theorem forall_mem_of_all {ps : List Port} {P : Port → Prop} [DecidablePred P]
    (h : (ps.all fun p => decide (P p)) = true) {p : Port} (hp : p ∈ ps) : P p :=
  of_decide_eq_true (List.all_eq_true.1 h p hp)

/-- The VGA's ports in the mono range are the mono group's three. -/
theorem monoRange_iff {p : Port} (hp : p ∈ vgaPorts) :
    0x3B0 ≤ p.toNat ∧ p.toNat ≤ 0x3BF ↔ p ∈ monoPorts :=
  forall_mem_of_all (P := fun q => 0x3B0 ≤ q.toNat ∧ q.toNat ≤ 0x3BF ↔ q ∈ monoPorts)
    (by decide) hp

/-- The VGA's ports in the colour range are the colour group's three. -/
theorem colourRange_iff {p : Port} (hp : p ∈ vgaPorts) :
    0x3D0 ≤ p.toNat ∧ p.toNat ≤ 0x3DF ↔ p ∈ colourPorts :=
  forall_mem_of_all (P := fun q => 0x3D0 ≤ q.toNat ∧ q.toNat ≤ 0x3DF ↔ q ∈ colourPorts)
    (by decide) hp

theorem groups_disjoint {p : Port} (hmono : p ∈ monoPorts) : p ∉ colourPorts :=
  forall_mem_of_all (P := fun q => q ∉ colourPorts) (by decide) hmono

theorem gatePasses_iff (v : Vga) {p : Port} (hp : p ∈ vgaPorts) :
    v.gatePasses p = true ↔
      (p ∈ monoPorts → v.misc.getLsbD 0 = false) ∧
      (p ∈ colourPorts → v.misc.getLsbD 0 = true) := by
  have hgate : v.gatePasses p = v.answered p := by simp [Vga.gatePasses, hp]
  rw [hgate, Vga.answered]
  simp only [monoRange_iff hp, colourRange_iff hp]
  by_cases hmono : p ∈ monoPorts
  · rw [if_pos hmono]
    simp [hmono, groups_disjoint hmono]
  · rw [if_neg hmono]
    by_cases hcolour : p ∈ colourPorts
    · rw [if_pos hcolour]
      simp [hmono, hcolour]
    · rw [if_neg hcolour]
      simp [hmono, hcolour]

/-- Settles O3: the write is the handler's one update, and the next state's gate is `gatePasses_iff` of the
new byte. -/
theorem miscWriteSwitchesGroups : Obligations.MiscWriteSwitchesGroups := by
  refine fun s d ha => ⟨_, exec_outPort_of_answers ha, rfl, fun p hp howner => ?_⟩
  obtain ⟨m, ho, hvideo, -⟩ := ha
  rw [← gatePasses_iff { s.vga with misc := d } hp]
  exact ⟨fun ⟨_, _, _, hgate⟩ => hgate, fun hgate => ⟨m, howner.trans ho, hvideo, hgate⟩⟩

/-- A port of the group that Misc bit 0 does not select stops at the gate. -/
theorem gatePasses_of_inactive {v : Vga} {p : Port}
    (hp : p ∈ monoPorts ∧ v.misc.getLsbD 0 = true ∨
      p ∈ colourPorts ∧ v.misc.getLsbD 0 = false) :
    v.gatePasses p = false := by
  have hmem : p ∈ vgaPorts :=
    forall_mem_of_all (P := (· ∈ vgaPorts)) (ps := monoPorts ++ colourPorts) (by decide)
      (List.mem_append.2 (hp.imp And.left And.left))
  rw [Bool.eq_false_iff, Ne, gatePasses_iff v hmem]
  rintro ⟨hmono, hcolour⟩
  rcases hp with ⟨hp, hbit⟩ | ⟨hp, hbit⟩
  · cases (hmono hp).symm.trans hbit
  · cases (hcolour hp).symm.trans hbit

/-- Settles O15: the dispatch finds the VGA and the gate of the inactive group. -/
theorem inactiveGroupIsSilent : Obligations.InactiveGroupIsSilent := by
  intro s p m d ho hvideo hp
  have hmismatch : s.VgaMismatch p := ⟨m, ho, hvideo, gatePasses_of_inactive hp⟩
  rw [exec_portReadInstr, exec_portWriteInstr, exec_inPort, exec_outPort,
    portRead_of_mismatch hmismatch, portWrite_of_mismatch hmismatch]
  exact ⟨rfl, rfl⟩

/-! ### Registers stored whole -/

/-- Settles O1: each of the eight handlers is one update of its register. -/
theorem plainRegisterWrites : Obligations.PlainRegisterWrites := fun _ _ =>
  ⟨exec_outPort_of_answers, exec_outPort_of_answers, exec_outPort_of_answers,
    exec_outPort_of_answers, exec_outPort_of_answers, exec_outPort_of_answers,
    exec_outPort_of_answers, exec_outPort_of_answers⟩

/-- Settles O2: each of the nine handlers leaves the state and answers its register. -/
theorem plainRegisterReads : Obligations.PlainRegisterReads := fun _ =>
  ⟨exec_inPort_of_answers, exec_inPort_of_answers, exec_inPort_of_answers,
    exec_inPort_of_answers, exec_inPort_of_answers, exec_inPort_of_answers,
    exec_inPort_of_answers, exec_inPort_of_answers, exec_inPort_of_answers⟩

/-- Settles O14: the handlers of the read-only and the unused ports log, and change nothing else. -/
theorem readOnlyAndUnusedPorts : Obligations.ReadOnlyAndUnusedPorts := fun _ _ =>
  ⟨exec_outPort_of_answers, exec_outPort_of_answers, exec_outPort_of_answers,
    fun ha => ⟨exec_inPort_of_answers ha, exec_outPort_of_answers ha⟩,
    fun ha => ⟨exec_inPort_of_answers ha, exec_outPort_of_answers ha⟩⟩

/-! ### Status (R184, R197) -/

/-- The two drawn bits of Input Status 1 stand at bits 0 and 3. -/
theorem and_statusMask (b : Byte) :
    b &&& 0x09 = (b.extractLsb' 0 1).setWidth 8 ||| (b.extractLsb' 3 1).setWidth 8 <<< 3 := by
  ext i hi
  interval_cases i <;> simp

/-- Settles O6: the Input Status 1 handler masks its draw; the Input Status 0 handler is the draw. -/
theorem statusReads : Obligations.StatusReads := by
  refine ⟨fun s p i hi ha => ?_, fun s ha => ⟨_, exec_inPort_of_answers ha⟩⟩
  have hexec : exec i s = .next (answerByte (inputStatus1Read Config.params s)) := by
    rcases hi with ⟨rfl, rfl⟩ | ⟨rfl, rfl⟩ <;> exact exec_inPort_of_answers ha
  refine ⟨(Config.params.drawByte s.draws).extractLsb' 0 1,
    (Config.params.drawByte s.draws).extractLsb' 3 1, ?_⟩
  rw [hexec, ← and_statusMask]
  rfl

end Sys2Proof.Machine
end

section
/-! PROOF. The indexed banks (41_vga_ports.md R186, R187, R190-R192, R204, R205, R230, R231): each data
handler inside its bank and outside it, and the transactions that run it. -/

namespace Sys2Proof.Machine

/-! ### CRT Controller (R186, R187) -/

section Crtc
variable {s : State}

theorem crtcDataRead_of_lt (h : s.vga.crtcIndex.toNat < 25) (C : Params) :
    crtcDataRead C s = (s, s.vga.crtc[s.vga.crtcIndex.toNat]) :=
  dif_pos h

theorem crtcDataRead_of_le (h : 25 ≤ s.vga.crtcIndex.toNat) (C : Params) :
    crtcDataRead C s = drawByte C (s.record (.badIndex .crtc s.vga.crtcIndex)) :=
  dif_neg (Nat.not_lt.2 h)

/-- Outside the bank a write is logged and lost. -/
theorem crtcDataWrite_of_le (h : 25 ≤ s.vga.crtcIndex.toNat) (d : Byte) :
    crtcDataWrite d s = s.record (.badIndex .crtc s.vga.crtcIndex) :=
  dif_neg (Nat.not_lt.2 h)

/-- Under protection a write to 0x00-0x06 is logged and lost. -/
theorem crtcDataWrite_of_protected (hp : s.vga.protect = true) (h : s.vga.crtcIndex.toNat < 7)
    (d : Byte) : crtcDataWrite d s = s.record (.protectedIndex s.vga.crtcIndex) := by
  have hstore : crtcStore s.vga ⟨s.vga.crtcIndex.toNat, by omega⟩ d = s.vga.crtc := by
    simp [crtcStore, hp, Nat.le_of_lt h, Nat.ne_of_lt h]
  have hlt : s.vga.crtcIndex.toNat < 25 := by omega
  simp only [crtcDataWrite, hlt, hp, Nat.le_of_lt h, hstore]
  rfl

/-- Under protection a write to 0x07 takes bit 4 alone. -/
theorem crtcDataWrite_overflow_of_protected (hp : s.vga.protect = true)
    (h : s.vga.crtcIndex = 0x07) (d : Byte) :
    crtcDataWrite d s = (s.setVga { s.vga with
      crtc := s.vga.crtc.set 0x07 ((s.vga.crtc[0x07] &&& 0xEF) ||| (d &&& 0x10)) }).record
        (.protectedIndex 0x07) := by
  simp [crtcDataWrite, crtcStore, hp, h]

/-- Without protection, or above 0x07, the register takes the byte. -/
theorem crtcDataWrite_of_writable (h : s.vga.crtcIndex.toNat < 25)
    (hw : s.vga.protect = false ∨ 7 < s.vga.crtcIndex.toNat) (d : Byte) :
    crtcDataWrite d s =
      s.setVga { s.vga with crtc := s.vga.crtc.set s.vga.crtcIndex.toNat d } := by
  have hguard : (s.vga.protect && decide (s.vga.crtcIndex.toNat ≤ 7)) = false := by
    rcases hw with hw | hw
    · rw [hw, Bool.false_and]
    · rw [decide_eq_false (Nat.not_le.2 hw), Bool.and_false]
  simp [crtcDataWrite, crtcStore, h, hguard]

end Crtc

/-- Settles O4: on either port the handler is `crtcDataWrite`, one equation per case. -/
theorem crtcDataWrite_holds : Obligations.CrtcDataWrite := by
  intro s d p i hi ha
  have hexec : exec i s = .next ((crtcDataWrite d s).answer .unit) := by
    rcases hi with ⟨rfl, rfl⟩ | ⟨rfl, rfl⟩ <;> exact exec_outPort_of_answers ha
  rw [hexec]
  refine ⟨fun h => ?_, fun hp h => ?_, fun hp h => ?_, fun h hw => ?_⟩
  · rw [crtcDataWrite_of_le h]
    rfl
  · rw [crtcDataWrite_of_protected hp h]
    rfl
  · rw [crtcDataWrite_overflow_of_protected hp h]
    rfl
  · rw [crtcDataWrite_of_writable h hw]
    rfl

/-- Settles O5: on either port the handler is `crtcDataRead`, inside the bank and outside it. -/
theorem crtcDataRead_holds : Obligations.CrtcDataRead := by
  intro s p i hi ha
  have hexec : exec i s = .next (answerByte (crtcDataRead Config.params s)) := by
    rcases hi with ⟨rfl, rfl⟩ | ⟨rfl, rfl⟩ <;> exact exec_inPort_of_answers ha
  rw [hexec]
  refine ⟨fun h => ?_, fun h => ?_⟩
  · rw [crtcDataRead_of_lt h]
    rfl
  · rw [crtcDataRead_of_le h]
    exact ⟨_, rfl⟩

/-! ### Sequencer and Graphics Controller (R204, R205, R230, R231) -/

section Banks
variable {s : State}

theorem seqDataWrite_of_lt (h : s.vga.seqIndex.toNat < 5) (d : Byte) :
    seqDataWrite d s = s.setVga { s.vga with seq := s.vga.seq.set s.vga.seqIndex.toNat d } :=
  dif_pos h

theorem seqDataWrite_of_le (h : 5 ≤ s.vga.seqIndex.toNat) (d : Byte) :
    seqDataWrite d s = s.record (.badIndex .sequencer s.vga.seqIndex) :=
  dif_neg (Nat.not_lt.2 h)

theorem seqDataRead_of_lt (h : s.vga.seqIndex.toNat < 5) (C : Params) :
    seqDataRead C s = (s, s.vga.seq[s.vga.seqIndex.toNat]) :=
  dif_pos h

theorem seqDataRead_of_le (h : 5 ≤ s.vga.seqIndex.toNat) (C : Params) :
    seqDataRead C s = drawByte C (s.record (.badIndex .sequencer s.vga.seqIndex)) :=
  dif_neg (Nat.not_lt.2 h)

theorem gcDataWrite_of_lt (h : s.vga.gcIndex.toNat < 9) (d : Byte) :
    gcDataWrite d s = s.setVga { s.vga with gc := s.vga.gc.set s.vga.gcIndex.toNat d } :=
  dif_pos h

theorem gcDataWrite_of_le (h : 9 ≤ s.vga.gcIndex.toNat) (d : Byte) :
    gcDataWrite d s = s.record (.badIndex .graphics s.vga.gcIndex) :=
  dif_neg (Nat.not_lt.2 h)

theorem gcDataRead_of_lt (h : s.vga.gcIndex.toNat < 9) (C : Params) :
    gcDataRead C s = (s, s.vga.gc[s.vga.gcIndex.toNat]) :=
  dif_pos h

theorem gcDataRead_of_le (h : 9 ≤ s.vga.gcIndex.toNat) (C : Params) :
    gcDataRead C s = drawByte C (s.record (.badIndex .graphics s.vga.gcIndex)) :=
  dif_neg (Nat.not_lt.2 h)

/-! The four transactions of the two data ports, while the VGA answers. -/

theorem exec_out3C5 (ha : s.VgaAnswers 0x3C5) (d : Byte) :
    exec (.out3C5 d) s = .next ((seqDataWrite d s).answer .unit) :=
  exec_outPort_of_answers ha

theorem exec_in3C5 (ha : s.VgaAnswers 0x3C5) :
    exec .in3C5 s = .next (answerByte (seqDataRead Config.params s)) :=
  exec_inPort_of_answers ha

theorem exec_out3CF (ha : s.VgaAnswers 0x3CF) (d : Byte) :
    exec (.out3CF d) s = .next ((gcDataWrite d s).answer .unit) :=
  exec_outPort_of_answers ha

theorem exec_in3CF (ha : s.VgaAnswers 0x3CF) :
    exec .in3CF s = .next (answerByte (gcDataRead Config.params s)) :=
  exec_inPort_of_answers ha

end Banks

/-- Settles O9: the four data handlers, inside their bank and outside it. -/
theorem indexedBankData : Obligations.IndexedBankData := by
  refine ⟨fun s d ha => ?_, fun s d ha => ?_⟩
  · rw [exec_out3C5 ha, exec_in3C5 ha]
    refine ⟨fun h => ?_, fun h => ?_⟩
    · rw [seqDataWrite_of_lt h, seqDataRead_of_lt h]
      exact ⟨rfl, rfl⟩
    · rw [seqDataWrite_of_le h, seqDataRead_of_le h]
      exact ⟨rfl, _, rfl⟩
  · rw [exec_out3CF ha, exec_in3CF ha]
    refine ⟨fun h => ?_, fun h => ?_⟩
    · rw [gcDataWrite_of_lt h, gcDataRead_of_lt h]
      exact ⟨rfl, rfl⟩
    · rw [gcDataWrite_of_le h, gcDataRead_of_le h]
      exact ⟨rfl, _, rfl⟩

/-! ### Attribute Controller (R190-R192) -/

section AttrCtl
variable {s : State}

theorem acWrite_of_address (hf : s.vga.acFlip = .address) (d : Byte) :
    acWrite d s = s.setVga { s.vga with
      acIndex := d.extractLsb' 0 5, acPas := d.extractLsb' 5 1, acFlip := .data } := by
  simp only [acWrite, hf]

theorem acWrite_of_data_of_lt (hf : s.vga.acFlip = .data) (h : s.vga.acIndex.toNat < 21)
    (d : Byte) :
    acWrite d s = s.setVga { s.vga with
      ac := s.vga.ac.set s.vga.acIndex.toNat d, acFlip := .address } := by
  simp only [acWrite, hf, h, dite_true]

theorem acWrite_of_data_of_le (hf : s.vga.acFlip = .data) (h : 21 ≤ s.vga.acIndex.toNat)
    (d : Byte) :
    acWrite d s = (s.setVga { s.vga with acFlip := .address }).record
      (.badIndex .attrCtl (s.vga.acIndex.setWidth 8)) := by
  simp only [acWrite, hf, Nat.not_lt.2 h, dite_false]

theorem acDataRead_of_lt (h : s.vga.acIndex.toNat < 21) (C : Params) :
    acDataRead C s = (s, s.vga.ac[s.vga.acIndex.toNat]) :=
  dif_pos h

theorem acDataRead_of_le (h : 21 ≤ s.vga.acIndex.toNat) (C : Params) :
    acDataRead C s = drawByte C (s.record (.badIndex .attrCtl (s.vga.acIndex.setWidth 8))) :=
  dif_neg (Nat.not_lt.2 h)

theorem exec_out3C0 (ha : s.VgaAnswers 0x3C0) (d : Byte) :
    exec (.out3C0 d) s = .next ((acWrite d s).answer .unit) :=
  exec_outPort_of_answers ha

theorem exec_in3C0 (ha : s.VgaAnswers 0x3C0) :
    exec .in3C0 s = .next (answerByte (acAddressRead s)) :=
  exec_inPort_of_answers ha

theorem exec_in3C1 (ha : s.VgaAnswers 0x3C1) :
    exec .in3C1 s = .next (answerByte (acDataRead Config.params s)) :=
  exec_inPort_of_answers ha

end AttrCtl

/-- Settles O7: `acWrite` in the address phase, and in the data phase inside the bank and outside it. -/
theorem attributeWrite : Obligations.AttributeWrite := by
  intro s d ha
  rw [exec_out3C0 ha]
  refine ⟨fun hf => ?_, fun hf h => ?_, fun hf h => ?_⟩
  · rw [acWrite_of_address hf]
    rfl
  · rw [acWrite_of_data_of_lt hf h]
    rfl
  · rw [acWrite_of_data_of_le hf h]
    rfl

/-- The byte of the address read: the palette address source in bit 5, the index below it. -/
theorem acAddress_eq_or (pas : BitVec 1) (index : BitVec 5) :
    0#2 ++ pas ++ index = pas.setWidth 8 <<< 5 ||| index.setWidth 8 := by
  decide +revert

/-- Settles O8: the address read is `acAddress_eq_or`, the data read inside the bank and outside it. -/
theorem attributeReads : Obligations.AttributeReads := by
  refine fun s => ⟨fun ha => ?_, fun ha h => ?_, fun ha h => ?_⟩
  · rw [exec_in3C0 ha, ← acAddress_eq_or]
    rfl
  · rw [exec_in3C1 ha, acDataRead_of_lt h]
    rfl
  · rw [exec_in3C1 ha, acDataRead_of_le h]
    exact ⟨_, rfl⟩

end Sys2Proof.Machine
end

section
/-! PROOF. The DAC (41_vga_ports.md R212-R218): the palette as a memory of components, a counter as one
position that goes up by one each access, and the two properties of R218. -/

namespace Sys2Proof.Machine

/-! ### Palette and counters (10_state.md R38, R39) -/

theorem paletteRead_paletteWrite (v : Vga) (a a' : Byte) (c c' : Fin 3) (b : Byte) :
    paletteRead (paletteWrite v a c b) a' c' =
      if a' = a ∧ c' = c then b else paletteRead v a' c' := by
  by_cases ha : a' = a
  · subst ha
    by_cases hc : c' = c
    · subst hc
      simp [paletteRead, paletteWrite, Vector.get_eq_getElem]
    · have hne : c.val ≠ c'.val := fun h => hc (Fin.ext h.symm)
      simp [paletteRead, paletteWrite, Vector.get_eq_getElem, hc, hne]
  · have hne : a.toNat ≠ a'.toNat := fun h => ha (BitVec.eq_of_toNat_eq h.symm)
    simp [paletteRead, paletteWrite, ha, hne]

/-- The components before one: a counter's place in the palette, 0 to 767. -/
def dacPosition (a : Byte) (c : Fin 3) : Nat := 3 * a.toNat + c.val

/-- After phase 2 the counter starts the next triple (modulo 256). -/
theorem dacNext_of_last {c : Fin 3} (hc : c = 2) (a : Byte) :
    dacNextPhase c = 0 ∧ (dacNextAddr a c).toNat = (a.toNat + 1) % 256 := by
  subst hc
  exact ⟨rfl, BitVec.toNat_add a 1⟩

/-- Inside a triple the phase goes up by one and the address stays. -/
theorem dacNext_of_not_last {c : Fin 3} (hc : c ≠ 2) (a : Byte) :
    (dacNextPhase c).val = c.val + 1 ∧ dacNextAddr a c = a := by
  refine ⟨?_, if_neg hc⟩
  rw [dacNextPhase, if_neg hc]
  decide +revert

/-- An access moves the counter on by one component, around the palette. -/
theorem dacPosition_next (a : Byte) (c : Fin 3) :
    dacPosition (dacNextAddr a c) (dacNextPhase c) = (dacPosition a c + 1) % 768 := by
  have ha := a.isLt
  have hc := c.isLt
  unfold dacPosition
  by_cases hlast : c = 2
  · obtain ⟨hphase, haddr⟩ := dacNext_of_last hlast a
    rw [hphase, haddr, hlast]
    show 3 * ((a.toNat + 1) % 256) + 0 = (3 * a.toNat + 2 + 1) % 768
    omega
  · obtain ⟨hphase, haddr⟩ := dacNext_of_not_last hlast a
    have hne : c.val ≠ 2 := fun h => hlast (Fin.ext h)
    rw [hphase, haddr]
    omega

/-! ### What the handlers change -/

section Handlers
variable {s : State}

@[simp] theorem dacDataWrite_dacWAddr (d : Byte) (s : State) :
    (dacDataWrite d s).vga.dacWAddr = dacNextAddr s.vga.dacWAddr s.vga.dacWPhase := rfl

@[simp] theorem dacDataWrite_dacWPhase (d : Byte) (s : State) :
    (dacDataWrite d s).vga.dacWPhase = dacNextPhase s.vga.dacWPhase := rfl

@[simp] theorem paletteRead_dacDataWrite (d : Byte) (s : State) (a : Byte) (c : Fin 3) :
    paletteRead (dacDataWrite d s).vga a c =
      if a = s.vga.dacWAddr ∧ c = s.vga.dacWPhase then d else paletteRead s.vga a c :=
  paletteRead_paletteWrite ..

@[simp] theorem dacWriteAddrWrite_dacWAddr (A : Byte) (s : State) :
    (dacWriteAddrWrite A s).vga.dacWAddr = A := rfl

@[simp] theorem dacWriteAddrWrite_dacWPhase (A : Byte) (s : State) :
    (dacWriteAddrWrite A s).vga.dacWPhase = 0 := rfl

@[simp] theorem vgaAnswers_dacDataWrite {d : Byte} {p : Port} :
    (dacDataWrite d s).VgaAnswers p ↔ s.VgaAnswers p := .rfl

@[simp] theorem vgaAnswers_dacDataRead {C : Params} {p : Port} :
    (dacDataRead C s).1.VgaAnswers p ↔ s.VgaAnswers p := .rfl

@[simp] theorem vgaAnswers_dacWriteAddrWrite {d : Byte} {p : Port} :
    (dacWriteAddrWrite d s).VgaAnswers p ↔ s.VgaAnswers p := .rfl

@[simp] theorem vgaAnswers_dacReadAddrWrite {d : Byte} {p : Port} :
    (dacReadAddrWrite d s).VgaAnswers p ↔ s.VgaAnswers p := .rfl

theorem exec_out3C7 (ha : s.VgaAnswers 0x3C7) (d : Byte) :
    exec (.out3C7 d) s = .next ((dacReadAddrWrite d s).answer .unit) :=
  exec_outPort_of_answers ha

theorem exec_in3C7 (ha : s.VgaAnswers 0x3C7) :
    exec .in3C7 s = .next (answerByte (dacStateRead s)) :=
  exec_inPort_of_answers ha

theorem exec_out3C8 (ha : s.VgaAnswers 0x3C8) (d : Byte) :
    exec (.out3C8 d) s = .next ((dacWriteAddrWrite d s).answer .unit) :=
  exec_outPort_of_answers ha

theorem exec_out3C9 (ha : s.VgaAnswers 0x3C9) (d : Byte) :
    exec (.out3C9 d) s = .next ((dacDataWrite d s).answer .unit) :=
  exec_outPort_of_answers ha

theorem exec_in3C9 (ha : s.VgaAnswers 0x3C9) :
    exec .in3C9 s = .next (answerByte (dacDataRead Config.params s)) :=
  exec_inPort_of_answers ha

end Handlers

/-- Settles O10: the address writes are their handlers' updates, the state read answers by the flag. -/
theorem dacAddressAndState : Obligations.DacAddressAndState := by
  refine fun s d => ⟨(exec_out3C7 · d), (exec_out3C8 · d), fun ha hf => ?_, fun ha hf => ?_⟩ <;>
    rw [exec_in3C7 ha, dacStateRead, hf] <;> rfl

/-- Settles O11: the component by `paletteRead_dacDataWrite`, the counter by `dacNext_of_last` and
`dacNext_of_not_last`. -/
theorem dacDataWrite_holds : Obligations.DacDataWrite := fun _ d ha =>
  ⟨_, exec_out3C9 ha d, paletteRead_dacDataWrite d _, fun h => dacNext_of_last h _,
    fun h => dacNext_of_not_last h _, rfl⟩

/-- Settles O12: the read counter by `dacNext_of_last` and `dacNext_of_not_last`; the write handler has no
part in it. -/
theorem dacDataRead_holds : Obligations.DacDataRead := fun _ ha =>
  ⟨fun d => ⟨_, exec_out3C9 ha d, rfl, rfl⟩, _, exec_in3C9 ha, fun h => dacNext_of_last h _,
    fun h => dacNext_of_not_last h _, rfl⟩

/-! ### Runs (R218) -/

theorem execAll_cons_of_next {i : Instr} {is : List Instr} {s t : State} (h : exec i s = .next t) :
    execAll (i :: is) s = execAll is t := by
  rw [execAll, h]

theorem execResults_cons_of_next {i : Instr} {is : List Instr} {s t : State}
    (h : exec i s = .next t) : execResults (i :: is) s = t.result :: execResults is t := by
  rw [execResults, h]

/-- A run of data writes moves the write counter on by its length. -/
theorem execAll_dacDataWrites (ds : List Byte) {s : State} (ha : s.VgaAnswers 0x3C9) :
    ∃ t, execAll (ds.map .out3C9) s = .next t ∧
      dacPosition t.vga.dacWAddr t.vga.dacWPhase =
        (dacPosition s.vga.dacWAddr s.vga.dacWPhase + ds.length) % 768 := by
  induction ds generalizing s with
  | nil =>
    refine ⟨s, rfl, ?_⟩
    have ha := s.vga.dacWAddr.isLt
    have hc := s.vga.dacWPhase.isLt
    simp only [dacPosition, List.length_nil]
    omega
  | cons d ds ih =>
    obtain ⟨t, hrun, hpos⟩ := ih (s := (dacDataWrite d s).answer .unit) (by simpa using ha)
    refine ⟨t, ?_, ?_⟩
    · rw [List.map_cons, execAll_cons_of_next (exec_out3C9 ha d), hrun]
    · rw [hpos, State.answer_vga, dacDataWrite_dacWAddr, dacDataWrite_dacWPhase,
        dacPosition_next, List.length_cons]
      omega

/-- R218 (a): the counter's position gives address and phase back. -/
theorem dacWriteCounter_after (A : Byte) (ds : List Byte) {s : State} (ha8 : s.VgaAnswers 0x3C8)
    (ha9 : s.VgaAnswers 0x3C9) :
    ∃ t, execAll (.out3C8 A :: ds.map .out3C9) s = .next t ∧
      t.vga.dacWAddr.toNat = (A.toNat + ds.length / 3) % 256 ∧
      t.vga.dacWPhase.val = ds.length % 3 := by
  obtain ⟨t, hrun, hpos⟩ := execAll_dacDataWrites ds
    (s := (dacWriteAddrWrite A s).answer .unit) (by simpa using ha9)
  have hstart : dacPosition A 0 = 3 * A.toNat := rfl
  rw [State.answer_vga, dacWriteAddrWrite_dacWAddr, dacWriteAddrWrite_dacWPhase, hstart] at hpos
  have haddr := t.vga.dacWAddr.isLt
  have hphase := t.vga.dacWPhase.isLt
  unfold dacPosition at hpos
  exact ⟨t, (execAll_cons_of_next (exec_out3C8 ha8 A)).trans hrun, by omega, by omega⟩

/-- What `dacw A, R, G, B` leaves. -/
def afterDacw (A r g b : Byte) (s : State) : State :=
  (dacDataWrite b ((dacDataWrite g ((dacDataWrite r
    ((dacWriteAddrWrite A s).answer .unit)).answer .unit)).answer .unit)).answer .unit

@[simp] theorem vgaAnswers_afterDacw {A r g b : Byte} {s : State} {p : Port} :
    (afterDacw A r g b s).VgaAnswers p ↔ s.VgaAnswers p := by simp [afterDacw]

/-- Its three components stand at `A`. -/
theorem paletteRead_afterDacw (A r g b : Byte) (s : State) :
    paletteRead (afterDacw A r g b s).vga A 0 = r ∧
    paletteRead (afterDacw A r g b s).vga A 1 = g ∧
    paletteRead (afterDacw A r g b s).vga A 2 = b := by
  have h01 : dacNextPhase 0 = 1 := rfl
  have h12 : dacNextPhase 1 = 2 := rfl
  simp [afterDacw, h01, h12, dacNextAddr]

/-- `dacw A, R, G, B` answers nothing, four times. -/
theorem execResults_dacw (A r g b : Byte) (is : List Instr) {s : State} (ha8 : s.VgaAnswers 0x3C8)
    (ha9 : s.VgaAnswers 0x3C9) :
    execResults (pseudoDacw A r g b ++ is) s =
      .unit :: .unit :: .unit :: .unit :: execResults is (afterDacw A r g b s) := by
  simp only [pseudoDacw, List.cons_append, List.nil_append]
  rw [execResults_cons_of_next (exec_out3C8 ha8 A),
    execResults_cons_of_next (exec_out3C9 (by simpa using ha9) r),
    execResults_cons_of_next (exec_out3C9 (by simpa using ha9) g),
    execResults_cons_of_next (exec_out3C9 (by simpa using ha9) b)]
  rfl

/-- `dacr A` answers nothing, then the entry's three components. -/
theorem execResults_dacr (A : Byte) {s : State} (ha7 : s.VgaAnswers 0x3C7)
    (ha9 : s.VgaAnswers 0x3C9) :
    execResults (pseudoDacr A) s =
      [.unit, .byte (Config.params.dacReadXform (paletteRead s.vga A 0)),
        .byte (Config.params.dacReadXform (paletteRead s.vga A 1)),
        .byte (Config.params.dacReadXform (paletteRead s.vga A 2))] := by
  rw [pseudoDacr, execResults_cons_of_next (exec_out3C7 ha7 A),
    execResults_cons_of_next (exec_in3C9 (by simpa using ha9)),
    execResults_cons_of_next (exec_in3C9 (by simpa [answerByte] using ha9)),
    execResults_cons_of_next (exec_in3C9 (by simpa [answerByte] using ha9))]
  rfl

/-- Settles O13: the position of the write counter over any run of writes, and the triple written by `dacw`
read back by `dacr`. -/
theorem dacProperties : Obligations.DacProperties := by
  intro s A ha8 ha9
  refine ⟨fun ds => dacWriteCounter_after A ds ha8 ha9, fun ha7 r g b => ?_⟩
  obtain ⟨hr, hg, hb⟩ := paletteRead_afterDacw A r g b s
  rw [execResults_dacw A r g b _ ha8 ha9, execResults_dacr A (vgaAnswers_afterDacw.2 ha7)
    (vgaAnswers_afterDacw.2 ha9), hr, hg, hb]

end Sys2Proof.Machine
end

section
/-! PROOF. The flip-flop (41_vga_ports.md R194): the handlers that move it, and that no other operation of
the block does. -/

namespace Sys2Proof.Machine

/-! ### Handlers -/

/-- Every write toggles it (R190). -/
theorem acWrite_acFlip_ne (d : Byte) (s : State) : (acWrite d s).vga.acFlip ≠ s.vga.acFlip := by
  cases hf : s.vga.acFlip with
  | address => simp [acWrite_of_address hf]
  | data =>
    rcases Nat.lt_or_ge s.vga.acIndex.toNat 21 with h | h
    · simp [acWrite_of_data_of_lt hf h]
    · simp [acWrite_of_data_of_le hf h]

/-- A bank read leaves the adapter, inside the bank and outside it. -/
theorem crtcDataRead_vga (C : Params) (s : State) : (crtcDataRead C s).1.vga = s.vga := by
  unfold crtcDataRead
  split <;> rfl

theorem acDataRead_vga (C : Params) (s : State) : (acDataRead C s).1.vga = s.vga := by
  unfold acDataRead
  split <;> rfl

theorem seqDataRead_vga (C : Params) (s : State) : (seqDataRead C s).1.vga = s.vga := by
  unfold seqDataRead
  split <;> rfl

theorem gcDataRead_vga (C : Params) (s : State) : (gcDataRead C s).1.vga = s.vga := by
  unfold gcDataRead
  split <;> rfl

theorem crtcDataWrite_acFlip (d : Byte) (s : State) :
    (crtcDataWrite d s).vga.acFlip = s.vga.acFlip := by
  unfold crtcDataWrite
  split
  · simp only
    split <;> rfl
  · rfl

theorem seqDataWrite_acFlip (d : Byte) (s : State) :
    (seqDataWrite d s).vga.acFlip = s.vga.acFlip := by
  unfold seqDataWrite
  split <;> rfl

theorem gcDataWrite_acFlip (d : Byte) (s : State) :
    (gcDataWrite d s).vga.acFlip = s.vga.acFlip := by
  unfold gcDataWrite
  split <;> rfl

/-- Of the read handlers the two of Input Status 1 set the flip-flop, to ADDRESS. -/
theorem vgaReadHandler_acFlip (C : Params) (p : Port) (s : State) :
    (vgaReadHandler C p s).1.vga.acFlip = s.vga.acFlip ∨
      (p = 0x3BA ∨ p = 0x3DA) ∧ (vgaReadHandler C p s).1.vga.acFlip = .address := by
  unfold vgaReadHandler
  split
  case h_2 | h_21 => exact .inl (congrArg Vga.acFlip (crtcDataRead_vga C s))
  case h_3 => exact .inr ⟨.inl rfl, rfl⟩
  case h_22 => exact .inr ⟨.inr rfl, rfl⟩
  case h_5 => exact .inl (congrArg Vga.acFlip (acDataRead_vga C s))
  case h_9 => exact .inl (congrArg Vga.acFlip (seqDataRead_vga C s))
  case h_19 => exact .inl (congrArg Vga.acFlip (gcDataRead_vga C s))
  all_goals exact .inl rfl

/-- Of the write handlers only that of 0x3C0 moves the flip-flop. -/
theorem vgaWriteHandler_acFlip {p : Port} (hp : p ≠ 0x3C0) (d : Byte) (s : State) :
    (vgaWriteHandler p d s).vga.acFlip = s.vga.acFlip := by
  unfold vgaWriteHandler
  split
  case h_2 | h_21 => exact crtcDataWrite_acFlip d s
  case h_4 => exact absurd rfl hp
  case h_9 => exact seqDataWrite_acFlip d s
  case h_19 => exact gcDataWrite_acFlip d s
  all_goals rfl

/-! ### Port transactions -/

theorem deviceStep_vga (C : Params) (m : ModuleRef) (s : State) :
    (deviceStep C m s).vga = s.vga := by
  rcases deviceStep_cases C m s with h | h <;> rw [h] <;> rfl

/-- A port read leaves the flip-flop, or is an answered status read that sets it to ADDRESS. -/
theorem execInPort_acFlip {p : Port} {s t : State} (h : execInPort p s = .next t) :
    t.vga.acFlip = s.vga.acFlip ∨
      (p = 0x3BA ∨ p = 0x3DA) ∧ t.vga.acFlip = .address ∧ s.VgaAnswers p := by
  cases h
  rcases portRead_cases Config.params p (vgaReadHandler Config.params p) s with
    ⟨-, hr⟩ | ⟨ha, hr⟩ | ⟨-, hr⟩ | ⟨m, -, -, hr⟩ <;> rw [hr]
  · exact .inl rfl
  · exact (vgaReadHandler_acFlip Config.params p s).imp id fun ⟨hp, hf⟩ => ⟨hp, hf, ha⟩
  · exact .inl rfl
  · exact .inl (congrArg Vga.acFlip (deviceStep_vga Config.params m _))

/-- A port read of any other port leaves it. -/
theorem execInPort_acFlip_of_ne {p : Port} {s t : State} (h : execInPort p s = .next t)
    (hp : p ∉ [0x3BA#16, 0x3DA#16]) : t.vga.acFlip = s.vga.acFlip :=
  (execInPort_acFlip h).resolve_right fun ⟨hor, _⟩ => hp (by simpa using hor)

/-- A port write to any port but 0x3C0 leaves the flip-flop. -/
theorem execOutPort_acFlip {p : Port} {d : Byte} {s t : State} (h : execOutPort p d s = .next t)
    (hp : p ≠ 0x3C0) : t.vga.acFlip = s.vga.acFlip := by
  cases h
  rcases portWrite_cases Config.params p d (vgaWriteHandler p d) s with
    ⟨-, hw⟩ | ⟨-, hw⟩ | ⟨-, hw⟩ | ⟨m, -, -, hw⟩ <;> rw [hw]
  · rfl
  · exact vgaWriteHandler_acFlip hp d s
  · rfl
  · exact congrArg Vga.acFlip (deviceStep_vga Config.params m s)

/-! ### Window and display -/

theorem memRead_acFlip (C : Params) (a : PhysAddr) (s : State) :
    (memRead C a s).1.vga.acFlip = s.vga.acFlip := by
  rcases memRead_cases C a s with ⟨-, h⟩ | ⟨off, b, -, h⟩ <;> simp [h]

theorem memWrite_acFlip (C : Params) (a : PhysAddr) (d : Byte) (s : State) :
    (memWrite C a d s).vga.acFlip = s.vga.acFlip := by
  rcases memWrite_cases C a d s with h | ⟨off, ws, f, -, -, -, h | ⟨k, b, h⟩⟩ <;> rw [h] <;> rfl

/-- An update of the screen changes clean tiles and the announced size alone (43_vga_display.md R290). -/
theorem vgaUpdate_acFlip (C : Params) (s : State) :
    (vgaUpdate C s).vga.acFlip = s.vga.acFlip := by
  obtain ⟨es, ts, sz, h, -⟩ := vgaUpdate_change C s
  rw [h]

/-! ### Bus calls and interrupt lines leave the adapter -/

theorem bindPort_vga (p : Port) (m : ModuleRef) (s : State) : (bindPort p m s).1.vga = s.vga := by
  rcases bindPort_cases p m s with ⟨-, h⟩ | ⟨-, h⟩ | ⟨o, -, -, h⟩ <;> rw [h] <;> rfl

theorem requestTimer_vga (C : Params) (m : ModuleRef) (i : Int) (a : Bool) (s : State) :
    (requestTimer C m i a s).vga = s.vga := by
  rcases requestTimer_cases C m i a s with ⟨k, -, h⟩ | ⟨-, h⟩ <;> rw [h] <;> rfl

theorem updateTimer_vga (m : ModuleRef) (f : Timer → Timer) (s : State) :
    (updateTimer m f s).vga = s.vga := by
  rcases updateTimer_cases m f s with ⟨k, -, h⟩ | ⟨-, h⟩ <;> rw [h] <;> rfl

theorem getUpdateInterval_vga (C : Params) (m : ModuleRef) (s : State) :
    (getUpdateInterval C m s).1.vga = s.vga := by
  rcases getUpdateInterval_cases C m s with ⟨e, -, -, h⟩ | ⟨-, h⟩ <;> simp [h]

theorem requestIrq_vga (C : Params) (m : ModuleRef) (s : State) :
    (requestIrq C m s).1.vga = s.vga := by
  rcases requestIrq_cases C m s with ⟨n, -, h⟩ | ⟨n, -, -, h⟩ | ⟨-, -, h⟩ <;> rw [h] <;> rfl

theorem changeIrq_vga (b : Bool) (n : Byte) (s : State) : (changeIrq b n s).vga = s.vga := by
  rcases changeIrq_cases b n s with ⟨k, -, h⟩ | ⟨-, h⟩ <;> rw [h] <;> rfl

theorem acknowledge_vga (C : Params) (s : State) : (acknowledge C s).vga = s.vga := by
  rcases acknowledge_cases C s with ⟨-, h⟩ | ⟨n, -, -, h⟩ <;> rw [h]
  · rfl
  · rcases clearIfEdge_cases C n s with ⟨-, hc⟩ | ⟨-, hc⟩ <;> rw [hc] <;> rfl

/-! ### TICK (40_bus.md R152, R153) -/

theorem applyUpdateCall_vga (C : Params) (m : ModuleRef) (s : State) (c : UpdateCall) :
    (applyUpdateCall C m s c).vga = s.vga := by
  cases c with
  | setIrq n => exact changeIrq_vga true n s
  | clearIrq n => exact changeIrq_vga false n s
  | requestIrq k => exact requestIrq_vga C k s
  | setTimerActive k a => exact updateTimer_vga k _ s
  | resetTimer k i => exact updateTimer_vga k _ s
  | requestTimer k i a => exact requestTimer_vga C k i a s
  | reportError => rfl

theorem runUpdate_acFlip (C : Params) (m : ModuleRef) (s : State) :
    (runUpdate C m s).vga.acFlip = s.vga.acFlip := by
  rcases runUpdate_cases C m s with ⟨-, h⟩ | ⟨-, h⟩ <;> rw [h]
  · exact vgaUpdate_acFlip C s
  · exact foreignUpdate_keeps (P := fun t => t.vga.acFlip = s.vga.acFlip)
      (fun t c ht => (congrArg Vga.acFlip (applyUpdateCall_vga C m t c)).trans ht) rfl

theorem tickEntry_acFlip (C : Params) (d : Nat) (s : State) (k : Nat) :
    (tickEntry C d s k).vga.acFlip = s.vga.acFlip := by
  rcases tickEntry_cases C d s k with h | ⟨e, -, -, -, h⟩ | ⟨e, -, -, -, h⟩ <;> rw [h]
  · rfl
  · exact runUpdate_acFlip C e.owner _

theorem tick_acFlip (C : Params) (d : Nat) (s : State) :
    (tick C d s).vga.acFlip = s.vga.acFlip := by
  have hentries : ∀ (ks : List Nat) (t : State),
      (ks.foldl (tickEntry C d) t).vga.acFlip = t.vga.acFlip := fun ks => by
    induction ks with
    | nil => exact fun _ => rfl
    | cons k ks ih => exact fun t => (ih _).trans (tickEntry_acFlip C d t k)
  have hend : ∀ t, (endIteration t).vga = t.vga := fun t => by
    unfold endIteration
    split <;> rfl
  unfold tick
  rw [hend]
  exact hentries _ _

/-! ### Transactions -/

/-- A transaction leaves the flip-flop, or is a 0x3C0 write, an answered status read or RESET. A VGA port
row is the generic row at its own port, so its case is that row's. -/
theorem exec_acFlip {i : Instr} {s t : State} (hwf : i.wellFormed = true)
    (h : exec i s = .next t) :
    t.vga.acFlip = s.vga.acFlip ∨
    (∃ d, i = .out3C0 d) ∨
    (t.vga.acFlip = .address ∧
      (i = .in3BA ∧ s.VgaAnswers 0x3BA ∨ i = .in3DA ∧ s.VgaAnswers 0x3DA)) ∨
    i = .callReset := by
  cases i with
  | out3C0 d => exact .inr (.inl ⟨d, rfl⟩)
  | callReset => exact .inr (.inr (.inr rfl))
  | in3BA =>
    rcases execInPort_acFlip (p := 0x3BA) h with hkeep | ⟨-, hf, ha⟩
    · exact .inl hkeep
    · exact .inr (.inr (.inl ⟨hf, .inl ⟨rfl, ha⟩⟩))
  | in3DA =>
    rcases execInPort_acFlip (p := 0x3DA) h with hkeep | ⟨-, hf, ha⟩
    · exact .inl hkeep
    · exact .inr (.inr (.inl ⟨hf, .inr ⟨rfl, ha⟩⟩))
  | inPort p =>
    have hp := wellFormed_inPort.1 hwf
    refine .inl (execInPort_acFlip_of_ne h fun hmem => hp ?_)
    exact forall_mem_of_all (P := (· ∈ vgaPorts)) (by decide) hmem
  | outPort p d =>
    have hp := wellFormed_outPort.1 hwf
    refine .inl (execOutPort_acFlip h ?_)
    rintro rfl
    exact hp (by decide)
  | in3B4 | in3B5 | in3C0 | in3C1 | in3C2 | in3C3 | in3C4 | in3C5 | in3C6 | in3C7 | in3C8
  | in3C9 | in3CA | in3CB | in3CC | in3CD | in3CE | in3CF | in3D4 | in3D5 =>
    exact .inl (execInPort_acFlip_of_ne h (by decide))
  | out3B4 | out3B5 | out3BA | out3C1 | out3C2 | out3C3 | out3C4 | out3C5 | out3C6 | out3C7
  | out3C8 | out3C9 | out3CA | out3CB | out3CC | out3CD | out3CE | out3CF | out3D4 | out3D5
  | out3DA => exact .inl (execOutPort_acFlip h (by decide))
  | mrd a => cases h; exact .inl (memRead_acFlip _ a s)
  | mwr a d => cases h; exact .inl (memWrite_acFlip _ a d s)
  | callBind p m => cases h; exact .inl (congrArg Vga.acFlip (bindPort_vga p m s))
  | callRequestTimer m i a =>
    cases h; exact .inl (congrArg Vga.acFlip (requestTimer_vga _ m i a s))
  | callSetTimerActive m _ | callResetTimer m _ | callSetUpdateInterval m _ =>
    cases h; exact .inl (congrArg Vga.acFlip (updateTimer_vga m _ s))
  | callTick d => cases h; exact .inl (tick_acFlip _ d s)
  | callWire | callStop | callScreenSize => cases h; exact .inl rfl
  | callGetUpdateInterval m =>
    cases h; exact .inl (congrArg Vga.acFlip (getUpdateInterval_vga _ m s))
  | callRequestIrq m => cases h; exact .inl (congrArg Vga.acFlip (requestIrq_vga _ m s))
  | callSetIrq n => cases h; exact .inl (congrArg Vga.acFlip (changeIrq_vga true n s))
  | callClearIrq n => cases h; exact .inl (congrArg Vga.acFlip (changeIrq_vga false n s))
  | callInta => cases h; exact .inl (congrArg Vga.acFlip (acknowledge_vga _ s))
  | callVgaUpdate => cases h; exact .inl (vgaUpdate_acFlip _ s)

/-! ### The sequence of R194 -/

theorem exec_in3DA {s : State} (ha : s.VgaAnswers 0x3DA) :
    exec .in3DA s = .next (answerByte (inputStatus1Read Config.params s)) :=
  exec_inPort_of_answers ha

/-- Two writes from ADDRESS: the index, then the data at it. -/
theorem execAll_acWrites (x y : Byte) {s : State} (ha : s.VgaAnswers 0x3C0)
    (hf : s.vga.acFlip = .address) :
    ∃ t, execAll [.out3C0 x, .out3C0 y] s = .next t ∧
      t.vga.acFlip = .address ∧ t.vga.acIndex = x.extractLsb' 0 5 ∧
      ∀ h : (x.extractLsb' 0 5).toNat < 21, t.vga.ac[(x.extractLsb' 0 5).toNat] = y := by
  have hindex := acWrite_of_address hf x
  have ha' : ((acWrite x s).answer .unit).VgaAnswers 0x3C0 := by
    rw [hindex]
    exact ha
  have hrun : execAll [.out3C0 x, .out3C0 y] s =
      .next ((acWrite y ((acWrite x s).answer .unit)).answer .unit) := by
    rw [execAll_cons_of_next (exec_out3C0 ha x), execAll_cons_of_next (exec_out3C0 ha' y)]
    rfl
  refine ⟨_, hrun, ?_⟩
  rw [hindex]
  rcases Nat.lt_or_ge (x.extractLsb' 0 5).toNat 21 with h | h
  · rw [acWrite_of_data_of_lt rfl h]
    exact ⟨rfl, rfl, fun _ => Vector.getElem_set_self ..⟩
  · rw [acWrite_of_data_of_le rfl h]
    exact ⟨rfl, rfl, fun hlt => absurd hlt (Nat.not_lt.2 h)⟩

/-- Settles O16: the sequence from the status read, the toggle of `acWrite`, and `exec_acFlip` over every
transaction. -/
theorem flipFlopDiscipline : Obligations.FlipFlopDiscipline := by
  refine ⟨fun s x y haDA haC0 => ?_, fun s t d ha h => ?_, fun s t i hwf h hne => ?_⟩
  · rw [execAll_cons_of_next (exec_in3DA haDA)]
    exact execAll_acWrites x y (s := answerByte (inputStatus1Read Config.params s)) haC0 rfl
  · rw [exec_out3C0 ha] at h
    cases h
    exact acWrite_acFlip_ne d s
  · exact (exec_acFlip hwf h).resolve_left hne

end Sys2Proof.Machine
end

section
/-! PROOF. The bits of the codec (42_vga_memory_codec.md R252-R254, R260, R266-R269): what each byte
function makes of one bit, then the byte a window read returns and the byte a write mode makes. -/

namespace Sys2Proof.Machine

/-! ### Byte functions (00_scope.md R10, R260) -/

theorem getLsbD_rep8 (b : Bool) {j : Nat} (hj : j < 8) : (rep8 b).getLsbD j = b := by
  cases b
  · exact BitVec.getLsbD_zero
  · exact (BitVec.getLsbD_allOnes (v := 8)).trans (decide_eq_true hj)

/-- A rotated byte's bit is the one `n` places up, around the byte. -/
theorem getLsbD_rotr8 (d : Byte) (n : BitVec 3) {j : Nat} (hj : j < 8) :
    (rotr8 d n).getLsbD j = d.getLsbD ((j + n.toNat) % 8) := by
  have hn := n.isLt
  simp only [rotr8, BitVec.getLsbD_or, BitVec.getLsbD_ushiftRight, BitVec.getLsbD_shiftLeft]
  by_cases hwrap : j + n.toNat < 8
  · have hbelow : j < 8 - n.toNat := by omega
    simp [hbelow, Nat.mod_eq_of_lt hwrap, Nat.add_comm]
  · have hidx : (j + n.toNat) % 8 = j - (8 - n.toNat) := by omega
    have hhigh : d.getLsbD (n.toNat + j) = false := BitVec.getLsbD_of_ge d _ (by omega)
    have hnot : ¬j < 8 - n.toNat := by omega
    simp [hidx, hhigh, hnot, hj]

theorem getLsbD_alu (fn : BitVec 2) (d l : Byte) (j : Nat) :
    (alu fn d l).getLsbD j = bitOp fn (d.getLsbD j) (l.getLsbD j) := by
  unfold alu bitOp
  split <;> simp

theorem getLsbD_merge (x l m : Byte) {j : Nat} (hj : j < 8) :
    (merge x l m).getLsbD j = if m.getLsbD j then x.getLsbD j else l.getLsbD j := by
  simp only [merge, BitVec.getLsbD_or, BitVec.getLsbD_and, BitVec.getLsbD_not]
  cases m.getLsbD j <;> simp [hj]

/-- A bit of a four-bit field at the bottom of a register is the register's. -/
theorem getLsbD_lowNibble (b : Byte) (q : Fin 4) :
    (b.extractLsb' 0 4).getLsbD q = b.getLsbD q := by
  simp

/-! ### Reads (R252-R254) -/

theorem getLsbD_compareTerm (v : Vga) (q : Fin 4) {j : Nat} (hj : j < 8) :
    (compareTerm v q).getLsbD j =
      (((v.latch.get q).getLsbD j ^^ v.gc[2].getLsbD q) && v.gc[7].getLsbD q) := by
  simp only [compareTerm, Vga.cc, Vga.cdc, BitVec.getLsbD_and, BitVec.getLsbD_xor,
    getLsbD_rep8 _ hj, getLsbD_lowNibble]

/-- A plane's term is 0 when the plane takes no part or matches. -/
theorem getLsbD_compareTerm_eq_false_iff (v : Vga) (q : Fin 4) {j : Nat} (hj : j < 8) :
    (compareTerm v q).getLsbD j = false ↔
      (v.gc[7].getLsbD q = true → (v.latch.get q).getLsbD j = v.gc[2].getLsbD q) := by
  rw [getLsbD_compareTerm v q hj]
  cases v.gc[7].getLsbD q <;> simp

theorem getLsbD_readMode1 (v : Vga) {j : Nat} (hj : j < 8) :
    (readMode1 v).getLsbD j = true ↔
      ∀ q : Fin 4, v.gc[7].getLsbD q = true →
        (v.latch.get q).getLsbD j = v.gc[2].getLsbD q := by
  have hterms : (readMode1 v).getLsbD j = true ↔
      ∀ q : Fin 4, (compareTerm v q).getLsbD j = false := by
    simp [readMode1, hj, Fin.forall_fin_succ, and_assoc]
  simp only [hterms, getLsbD_compareTerm_eq_false_iff v _ hj]

theorem readMode0_eq (v : Vga) : readMode0 v = v.latch.get (Fin.ofNat 4 v.gc[4].toNat) := by
  simp [readMode0, Vga.rms, Vector.get_eq_getElem, BitVec.extractLsb'_toNat]

theorem memRead_of_inside (C : Params) {a : PhysAddr} {off : BitVec 16} {s : State}
    (h : s.vga.resolve a = some off) :
    memRead C a s = (s.setVga (readInside C off s.vga).1, (readInside C off s.vga).2) := by
  simp only [memRead, h]

theorem readInside_of_chain4 (C : Params) (off : BitVec 16) {v : Vga} (h : v.chain4 = true) :
    readInside C off v = (loadLatches C (chainIndex off) v,
      (loadLatches C (chainIndex off) v).latch.get (chainPlane off)) :=
  if_pos h

theorem readInside_of_planar (C : Params) (off : BitVec 16) {v : Vga} (h : v.chain4 = false) :
    readInside C off v = (loadLatches C off v,
      if v.rm then readMode1 (loadLatches C off v) else readMode0 (loadLatches C off v)) :=
  if_neg (Bool.eq_false_iff.1 h)

/-- A window read changes the latches and the result alone. -/
theorem exec_mrd_of_inside {a : PhysAddr} {off : BitVec 16} {s : State}
    (h : s.vga.resolve a = some off) :
    exec (.mrd a) s = .next { s with
      vga := { s.vga with latch := (readInside Config.params off s.vga).1.latch }
      result := .byte (readInside Config.params off s.vga).2 } := by
  rw [exec_mrd, memRead_of_inside _ h]
  cases hc : s.vga.chain4
  · rw [readInside_of_planar _ off hc]
    rfl
  · rw [readInside_of_chain4 _ off hc]
    rfl

/-- Settles O30: the latches are `loadLatches`' in both modes; the byte is `getLsbD_readMode1` in
read mode 1 and one latch otherwise. -/
theorem windowRead : Obligations.WindowRead := by
  intro s a off hoff
  refine ⟨_, _, exec_mrd_of_inside hoff, fun hchain => ?_, fun hplanar => ?_⟩
  · rw [readInside_of_chain4 _ off hchain]
    exact ⟨loadLatches_latch _ _ _, rfl⟩
  · rw [readInside_of_planar _ off hplanar]
    refine ⟨loadLatches_latch _ _ _, fun hrm => ?_, fun hrm j hj => ?_⟩
    · rw [Vga.rm, hrm]
      exact readMode0_eq _
    · rw [Vga.rm, hrm]
      exact getLsbD_readMode1 _ hj

/-! ### Write modes (R266-R269) -/

section WriteModes
variable {v : Vga} (d : Byte) (q : Fin 4) {j : Nat} (hj : j < 8)
include hj

theorem getLsbD_rotated :
    (rotr8 d v.rot).getLsbD j = d.getLsbD ((j + v.gc[3].toNat % 8) % 8) := by
  rw [getLsbD_rotr8 d v.rot hj, Vga.rot, BitVec.extractLsb'_toNat]
  rfl

theorem getLsbD_writeMode0 (hwm : v.wm = 0#2) :
    (writeMode v d q).getLsbD j = if v.gc[8].getLsbD j then
      bitOp v.fn (if v.gc[1].getLsbD q then v.gc[0].getLsbD q
        else d.getLsbD ((j + v.gc[3].toNat % 8) % 8)) ((v.latch.get q).getLsbD j)
      else (v.latch.get q).getLsbD j := by
  have hesr : v.esr.getLsbD q = v.gc[1].getLsbD q := getLsbD_lowNibble _ q
  have hsr : v.sr.getLsbD q = v.gc[0].getLsbD q := getLsbD_lowNibble _ q
  simp only [writeMode, hwm, getLsbD_merge _ _ _ hj, getLsbD_alu, apply_ite (BitVec.getLsbD · j),
    getLsbD_rep8 _ hj, getLsbD_rotated d hj, hesr, hsr, Vga.bm]

theorem getLsbD_writeMode2 (hwm : v.wm = 2#2) :
    (writeMode v d q).getLsbD j = if v.gc[8].getLsbD j then
      bitOp v.fn (d.getLsbD q) ((v.latch.get q).getLsbD j)
      else (v.latch.get q).getLsbD j := by
  simp only [writeMode, hwm, getLsbD_merge _ _ _ hj, getLsbD_alu, getLsbD_rep8 _ hj, Vga.bm]

theorem getLsbD_writeMode3 (hwm : v.wm = 3#2) :
    (writeMode v d q).getLsbD j =
      if d.getLsbD ((j + v.gc[3].toNat % 8) % 8) && v.gc[8].getLsbD j then
        bitOp v.fn (v.gc[0].getLsbD q) ((v.latch.get q).getLsbD j)
      else (v.latch.get q).getLsbD j := by
  have hsr : v.sr.getLsbD q = v.gc[0].getLsbD q := getLsbD_lowNibble _ q
  simp only [writeMode, hwm, getLsbD_merge _ _ _ hj, getLsbD_alu, getLsbD_rep8 _ hj,
    BitVec.getLsbD_and, getLsbD_rotated d hj, hsr, Vga.bm]

end WriteModes

theorem writeMode_of_wm1 {v : Vga} (hwm : v.wm = 1#2) (d : Byte) (q : Fin 4) :
    writeMode v d q = v.latch.get q := by
  simp only [writeMode, hwm]

/-- Settles O31: one lemma per write mode, each bit by bit. -/
theorem writeModesBitByBit : Obligations.WriteModesBitByBit := by
  intro v d q j hj
  exact ⟨getLsbD_writeMode0 d q hj,
    fun hwm => congrArg (BitVec.getLsbD · j) (writeMode_of_wm1 hwm d q),
    getLsbD_writeMode2 d q hj, getLsbD_writeMode3 d q hj⟩

end Sys2Proof.Machine
end

section
/-! PROOF. Window writes (42_vga_memory_codec.md R262-R264, R270-R274): when a write stores, the bytes
it stores with chain-four off, the tiles it marks and the font notification it sends. -/

namespace Sys2Proof.Machine

/-! ### Stores (R262-R264) -/

theorem storesOf_of_planar (C : Params) {v : Vga} (h : v.chain4 = false) (off : BitVec 16)
    (d : Byte) : storesOf C v off d =
      ((List.finRange 4).filter v.planeEnabled).map fun q => (q, off, writeMode v d q) :=
  if_neg (Bool.eq_false_iff.1 h)

/-- The bytes of memory after one store to each of some planes, all at one index. -/
theorem planeRead_storeAll_map (C : Params) (f : Fin 4 → Byte) (off i : BitVec 16) (p : Fin 4)
    (ps : List (Fin 4)) (m : Memory) :
    planeRead C (storeAll (ps.map fun q => (q, off, f q)) m) p i =
      if p ∈ ps ∧ i = off then f p else planeRead C m p i := by
  induction ps generalizing m with
  | nil => simp
  | cons q ps ih =>
    have hcons : storeAll ((q :: ps).map fun q => (q, off, f q)) m =
        storeAll (ps.map fun q => (q, off, f q)) (planeWrite m q off (f q)) := rfl
    rw [hcons, ih]
    by_cases hfirst : p = q ∧ i = off
    · obtain ⟨rfl, rfl⟩ := hfirst
      simp
    · rw [planeRead_write_of_ne C m (f q) hfirst]
      congr 1
      simp only [List.mem_cons, eq_iff_iff]
      tauto

/-- The bytes of memory after a planar store. -/
theorem planeRead_planar (C : Params) {v : Vga} (h : v.chain4 = false) (off : BitVec 16) (d : Byte)
    (m : Memory) (p : Fin 4) (i : BitVec 16) :
    planeRead C (storeAll (storesOf C v off d) m) p i =
      if v.seq[2].getLsbD p = true ∧ i = off then writeMode v d p else planeRead C m p i := by
  rw [storesOf_of_planar C h, planeRead_storeAll_map]
  simp [planeEnabled_eq]

/-- A byte of memory after a window write. -/
theorem planeByte_memWrite {a : PhysAddr} {off : BitVec 16} (d : Byte) {s : State}
    (h : s.vga.resolve a = some off) (p : Fin 4) (i : BitVec 16) :
    (memWrite Config.params a d s).planeByte p i = planeRead Config.params
      (storeAll (storesOf Config.params s.vga off d) s.vga.planes) p i :=
  congrArg (planeRead Config.params · p i) (memWrite_planes Config.params d h)

/-- Settles O32: `planeRead_planar` for the bytes, `memWrite_frame` for everything else. -/
theorem planarStore : Obligations.PlanarStore := fun s a d off hoff hplanar =>
  ⟨_, exec_mwr a d s,
    fun p i => (planeByte_memWrite d hoff p i).trans
      (planeRead_planar Config.params hplanar off d s.vga.planes p i),
    congrArg (State.answer · .unit) (memWrite_frame Config.params a d s)⟩

/-- `WriteStores` says that `storesOf` names a byte. -/
theorem storesOf_ne_nil_iff {v : Vga} {off : BitVec 16} (d : Byte) :
    storesOf Config.params v off d ≠ [] ↔ WriteStores v off := by
  cases hchain : v.chain4 with
  | false =>
    rw [storesOf_of_planar _ hchain]
    simp [WriteStores, hchain, planeEnabled_eq, List.filter_eq_nil_iff]
  | true =>
    cases hmode : Config.params.chain4Write with
    | raw => simp [storesOf_of_raw hchain hmode, WriteStores, hchain, hmode]
    | pipeline =>
      simp [storesOf_of_pipeline hchain hmode, WriteStores, hchain, hmode, planeEnabled_eq,
        chainPlane]

theorem memWrite_of_not_stores {a : PhysAddr} {off : BitVec 16} {s : State}
    (hoff : s.vga.resolve a = some off) (h : ¬WriteStores s.vga off) (d : Byte) :
    memWrite Config.params a d s = s := by
  have hnil := Classical.not_not.1 (mt (storesOf_ne_nil_iff d).1 h)
  simp only [memWrite, hoff, writeInside, hnil]

/-- A stored write: the stores, then the tiles, then the font notification (R264). -/
theorem memWrite_of_stores {a : PhysAddr} {off : BitVec 16} {s : State}
    (hoff : s.vga.resolve a = some off) (h : WriteStores s.vga off) (d : Byte) :
    memWrite Config.params a d s = fontCheck Config.params off
      (s.setVga (markTiles Config.params off { s.vga with
        planes := storeAll (storesOf Config.params s.vga off d) s.vga.planes })) := by
  have hne := (storesOf_ne_nil_iff d).2 h
  simp only [memWrite, hoff, writeInside]
  cases hws : storesOf Config.params s.vga off d with
  | nil => exact absurd hws hne
  | cons w ws => rfl

/-! ### Dirty marking (R270, R271) -/

theorem dirty_eq_true_iff {v : Vga} {t : Tile} : v.dirty t = true ↔ t ∉ v.clean := by
  simp [Vga.dirty]

/-- The interval [a, b] meets cell `c` of a line cut into cells of size `n`. -/
theorem exists_mem_cell_iff {a b c n : Nat} (hn : 0 < n) (hab : a ≤ b) :
    (∃ x, (a ≤ x ∧ x ≤ b) ∧ c * n ≤ x ∧ x < (c + 1) * n) ↔ a / n ≤ c ∧ c ≤ b / n := by
  rw [← Nat.lt_succ_iff, Nat.div_lt_iff_lt_mul hn, Nat.le_div_iff_mul_le hn]
  have hcell : c * n < (c + 1) * n := Nat.mul_lt_mul_of_pos_right (Nat.lt_succ_self c) hn
  constructor
  · rintro ⟨x, ⟨hax, hxb⟩, hcx, hxc⟩
    exact ⟨Nat.lt_of_le_of_lt hax hxc, Nat.le_trans hcx hxb⟩
  · rintro ⟨ha, hb⟩
    exact ⟨max a (c * n), ⟨Nat.le_max_left .., Nat.max_le.2 ⟨hab, hb⟩⟩, Nat.le_max_right ..,
      Nat.max_lt.2 ⟨ha, hcell⟩⟩

/-- The first and last pixel column, and the first and last scan line, of the byte at an offset. -/
def byteSpan (v : Vga) (off : BitVec 16) : (Nat × Nat) × (Nat × Nat) :=
  let rel := (off - v.startAddr).toNat
  let ppb := if v.chain4 then 2 else 8
  let lines := if v.doubleScan then 2 else 1
  ((rel % v.lineOffset * ppb, rel % v.lineOffset * ppb + ppb - 1),
    (rel / v.lineOffset * lines, rel / v.lineOffset * lines + lines - 1))

theorem byteSpan_ordered (v : Vga) (off : BitVec 16) :
    (byteSpan v off).1.1 ≤ (byteSpan v off).1.2 ∧ (byteSpan v off).2.1 ≤ (byteSpan v off).2.2 := by
  cases hchain : v.chain4 <;> cases hdouble : v.doubleScan <;> simp [byteSpan, hchain, hdouble]

/-- The pixels of a byte are those of its span. -/
theorem coversPixel_iff {v : Vga} {off : BitVec 16} {x y : Nat} :
    CoversPixel v off x y ↔
      ((byteSpan v off).1.1 ≤ x ∧ x ≤ (byteSpan v off).1.2) ∧
        (byteSpan v off).2.1 ≤ y ∧ y ≤ (byteSpan v off).2.2 := by
  simp only [CoversPixel, byteSpan, ← and_assoc (c := _ = _)]
  refine and_congr ?_ ?_
  · cases v.chain4 <;> simp only [if_true, Bool.false_eq_true, if_false] <;> omega
  · cases v.doubleScan <;> simp only [if_true, Bool.false_eq_true, if_false] <;> omega

/-- The tiles of a byte are its span's, each end divided by the tile size. -/
theorem tileSpan_eq (C : Params) (v : Vga) (off : BitVec 16) :
    tileSpan C v off =
      (((byteSpan v off).1.1 / C.xTileSize, (byteSpan v off).1.2 / C.xTileSize),
        ((byteSpan v off).2.1 / C.yTileSize, (byteSpan v off).2.2 / C.yTileSize)) := by
  cases hdouble : v.doubleScan <;> simp [tileSpan, byteSpan, hdouble]

/-- The model's span of tiles is the tiles the byte has a pixel in. -/
theorem inSpan_tileSpan_iff {v : Vga} {off : BitVec 16} {t : Tile} (ht : InGrid t) :
    inSpan Config.params (tileSpan Config.params v off) t = true ↔ Touches v off t := by
  obtain ⟨hx, hy⟩ := byteSpan_ordered v off
  have hcols := exists_mem_cell_iff (c := t.col) Config.params.xTileSize.pos hx
  have hrows := exists_mem_cell_iff (c := t.row) Config.params.yTileSize.pos hy
  obtain ⟨hcol, hrow⟩ := ht
  simp only [inSpan, tileSpan_eq, Bool.and_eq_true, decide_eq_true_eq, hcol, hrow, and_true,
    and_assoc] at hcols hrows ⊢
  rw [← and_assoc, ← hcols, ← hrows]
  simp only [Touches, TileCovers, coversPixel_iff]
  constructor
  · rintro ⟨⟨x, hax, hxb, hcx, hxc⟩, y, hay, hyb, hcy, hyc⟩
    exact ⟨x, y, ⟨⟨hax, hxb⟩, hay, hyb⟩, hcx, hxc, hcy, hyc⟩
  · rintro ⟨x, y, ⟨⟨hax, hxb⟩, hay, hyb⟩, hcx, hxc, hcy, hyc⟩
    exact ⟨⟨x, hax, hxb, hcx, hxc⟩, y, hay, hyb, hcy, hyc⟩

/-- Text mode or line offset 0: every tile (R271). -/
theorem markTiles_clean_of_all (C : Params) (off : BitVec 16) {v : Vga}
    (h : v.graphicsMode = false ∨ v.lineOffset = 0) : (markTiles C off v).clean = [] := by
  unfold markTiles
  split
  case isTrue => rfl
  case isFalse hgraphics =>
    have hzero : v.lineOffset = 0 := h.resolve_left (by simpa using hgraphics)
    rw [if_pos hzero]
    rfl

/-- Otherwise the byte's tiles (R270). -/
theorem markTiles_clean_of_span (C : Params) (off : BitVec 16) {v : Vga}
    (hgraphics : v.graphicsMode = true) (hline : v.lineOffset ≠ 0) :
    (markTiles C off v).clean = v.clean.filter fun t => !inSpan C (tileSpan C v off) t := by
  simp only [markTiles, hgraphics, hline]
  rfl

/-- Marking does not look at the planes. -/
theorem markTiles_clean_withPlanes (C : Params) (off : BitVec 16) (v : Vga) (m : Memory) :
    (markTiles C off { v with planes := m }).clean = (markTiles C off v).clean := by
  simp only [markTiles, apply_ite Vga.clean]
  rfl

section Stored
variable {s : State} {a : PhysAddr} {off : BitVec 16} (hoff : s.vga.resolve a = some off)
  (hstores : WriteStores s.vga off) (d : Byte) {t : Tile}
include hoff hstores

/-- The clean tiles after a stored write. -/
theorem memWrite_clean : (memWrite Config.params a d s).vga.clean =
    (markTiles Config.params off s.vga).clean := by
  rw [memWrite_of_stores hoff hstores, fontCheck_vga]
  exact markTiles_clean_withPlanes ..

theorem memWrite_dirty_of_all (h : s.vga.graphicsMode = false ∨ s.vga.lineOffset = 0) :
    (memWrite Config.params a d s).vga.dirty t = true := by
  rw [dirty_eq_true_iff, memWrite_clean hoff hstores, markTiles_clean_of_all _ off h]
  exact List.not_mem_nil

theorem memWrite_dirty_iff (hgraphics : s.vga.graphicsMode = true) (hline : s.vga.lineOffset ≠ 0)
    (ht : InGrid t) :
    (memWrite Config.params a d s).vga.dirty t = true ↔
      s.vga.dirty t = true ∨ Touches s.vga off t := by
  rw [dirty_eq_true_iff, memWrite_clean hoff hstores,
    markTiles_clean_of_span _ off hgraphics hline, dirty_eq_true_iff, ← inSpan_tileSpan_iff ht,
    List.mem_filter, not_and, Bool.not_eq_true', Bool.not_eq_false]
  exact imp_iff_not_or

end Stored

/-- Settles O34: nothing, every tile, or the byte's tiles. -/
theorem writeMarksItsTiles : Obligations.WriteMarksItsTiles := by
  refine fun s a d off hoff => ⟨fun hnot => ?_, fun hstores =>
    ⟨_, exec_mwr a d s, fun tile ht => ⟨memWrite_dirty_of_all hoff hstores d,
      fun hgraphics hline => memWrite_dirty_iff hoff hstores d hgraphics hline ht⟩⟩⟩
  rw [exec_mwr, memWrite_of_not_stores hoff hnot]
  rfl

/-! ### Font notification (R274) -/

theorem charMapB_toNat (v : Vga) :
    v.charMapB.toNat = (v.seq[3].getLsbD 4).toNat * 4 + v.seq[3].toNat % 4 := by
  unfold Vga.charMapB
  generalize v.seq[3] = b
  decide +revert

theorem fontBase_eq (m : BitVec 3) : fontBase m =
    [0x0000, 0x4000, 0x8000, 0xC000, 0x2000, 0x6000, 0xA000, 0xE000].getD m.toNat 0 := by
  decide +revert

/-- What `FontCheck` sends. -/
def fontEvents (C : Params) (v : Vga) (off : BitVec 16) : List OutEvent :=
  if inFontWindow v (storeIndex v off) then
    [.fontWrite ((storeIndex v off).toNat - fontBase v.charMapB)
      (planeRead C v.planes 2 (storeIndex v off))]
  else []

theorem fontCheck_out (C : Params) (off : BitVec 16) (s : State) :
    (fontCheck C off s).out = s.out ++ fontEvents C s.vga off := by
  unfold fontCheck fontEvents
  split
  · rfl
  · exact (List.append_nil _).symm

theorem eq_fontWrite_of_mem_fontEvents {C : Params} {v : Vga} {off : BitVec 16} {e : OutEvent}
    (h : e ∈ fontEvents C v off) : ∃ k b, e = .fontWrite k b := by
  unfold fontEvents at h
  split at h
  · exact ⟨_, _, List.mem_singleton.1 h⟩
  · cases h

/-- The outputs of a stored write, read off the adapter it leaves. -/
theorem memWrite_out {s : State} {a : PhysAddr} {off : BitVec 16}
    (hoff : s.vga.resolve a = some off) (hstores : WriteStores s.vga off) (d : Byte) :
    (memWrite Config.params a d s).out =
      s.out ++ fontEvents Config.params (memWrite Config.params a d s).vga off := by
  rw [memWrite_of_stores hoff hstores, fontCheck_out, fontCheck_vga]
  rfl

/-- A window write changes no Sequencer register. -/
theorem memWrite_seq (C : Params) (a : PhysAddr) (d : Byte) (s : State) :
    (memWrite C a d s).vga.seq = s.vga.seq := by
  rw [memWrite_frame]

/-- Settles O35: `FontCheck` sees the bytes stored, and the map and the index as they were. -/
theorem fontNotification : Obligations.FontNotification := by
  intro s a d off hoff hstores
  refine ⟨_, exec_mwr a d s, (memWrite_out hoff hstores d).trans ?_⟩
  simp only [fontEvents, inFontWindow, Bool.and_eq_true, decide_eq_true_eq, fontBase_eq,
    charMapB_toNat, storeIndex, Vga.chain4, memWrite_seq]
  rfl

end Sys2Proof.Machine
end

section
/-! PROOF. The graphics update (43_vga_display.md R296-R298, R300) and the tile cycle it makes with
window writes (42_vga_memory_codec.md R272): the tiles one update redraws, and what is clean after it. -/

namespace Sys2Proof.Machine

/-! ### Cleaning tiles -/

/-- The adapter with some tiles clean as well. -/
def clearTiles (ts : List Tile) (v : Vga) : Vga := ts.foldl (fun v t => clearTile t v) v

theorem clearTile_dirty_iff {t u : Tile} {v : Vga} :
    (clearTile t v).dirty u = true ↔ v.dirty u = true ∧ u ≠ t := by
  simp only [dirty_eq_true_iff, clearTile_clean, mem_tileInsert, not_or]
  exact and_comm

theorem clearTiles_dirty_iff {ts : List Tile} {u : Tile} {v : Vga} :
    (clearTiles ts v).dirty u = true ↔ v.dirty u = true ∧ u ∉ ts := by
  induction ts generalizing v with
  | nil => simp [clearTiles]
  | cons t ts ih =>
    have hcons : clearTiles (t :: ts) v = clearTiles ts (clearTile t v) := rfl
    rw [hcons, ih, clearTile_dirty_iff, List.mem_cons, not_or, and_assoc]

/-! ### The visit of the grid (43_vga_display.md R298) -/

theorem gridTiles_nodup (C : Params) : (gridTiles C).Nodup := by
  refine List.nodup_flatMap.2 ⟨fun r _ => ?_, ?_⟩
  · exact List.nodup_range.map fun c c' h => congrArg Tile.col h
  · refine List.nodup_range.imp fun {r r'} hne t ht ht' => ?_
    obtain ⟨c, -, rfl⟩ := List.mem_map.1 ht
    obtain ⟨c', -, h⟩ := List.mem_map.1 ht'
    exact hne (congrArg Tile.row h).symm

theorem redrawTile_of_redrawn {C : Params} {size : Nat × Nat} {s : State} {t : Tile}
    (h : (s.vga.dirty t && onScreen C size t) = true) : redrawTile C size s t =
      { s with
        vga := clearTile t s.vga
        out := s.out ++ [.tileRedraw t (C.render s.vga (.tile t))] } :=
  if_pos h

theorem redrawTile_of_not_redrawn {C : Params} {size : Nat × Nat} {s : State} {t : Tile}
    (h : ¬(s.vga.dirty t && onScreen C size t) = true) : redrawTile C size s t = s :=
  if_neg h

/-- The tiles of a list that are dirty and on the screen. -/
def redrawn (size : Nat × Nat) (v : Vga) (ts : List Tile) : List Tile :=
  ts.filter fun t => v.dirty t && onScreen Config.params size t

/-- Cleaning a tile that is not in a list leaves the list's dirty tiles. -/
theorem redrawn_clearTile (size : Nat × Nat) (v : Vga) {t : Tile} {ts : List Tile} (h : t ∉ ts) :
    redrawn size (clearTile t v) ts = redrawn size v ts := by
  refine List.filter_congr fun u hu => ?_
  have hne : u ≠ t := fun heq => h (heq ▸ hu)
  have hdirty : (clearTile t v).dirty u = v.dirty u :=
    Bool.eq_iff_iff.2 (clearTile_dirty_iff.trans (and_iff_left hne))
  rw [hdirty]

/-- Visiting a list of tiles redraws those that were dirty and on the screen, and cleans them. -/
theorem redrawTiles_eq (size : Nat × Nat) {ts : List Tile} (hts : ts.Nodup) (s : State) :
    ts.foldl (redrawTile Config.params size) s = { s with
      vga := clearTiles (redrawn size s.vga ts) s.vga
      out := s.out ++ redrawEvents s.vga (redrawn size s.vga ts) } := by
  induction ts generalizing s with
  | nil => simp [redrawn, redrawEvents, clearTiles]
  | cons t ts ih =>
    obtain ⟨hnot, hrest⟩ := List.nodup_cons.1 hts
    rw [List.foldl_cons, ih hrest]
    by_cases h : (s.vga.dirty t && onScreen Config.params size t) = true
    · have hcons : redrawn size s.vga (t :: ts) = t :: redrawn size s.vga ts :=
        List.filter_cons_of_pos h
      simp only [redrawTile_of_redrawn h, hcons, redrawn_clearTile size s.vga hnot,
        List.append_assoc]
      rfl
    · have hcons : redrawn size s.vga (t :: ts) = redrawn size s.vga ts :=
        List.filter_cons_of_neg h
      rw [redrawTile_of_not_redrawn h, hcons]

/-! ### The graphics update (43_vga_display.md R296-R298) -/

theorem announceSize_eq (s : State) :
    announceSize (s.vga.screenSize Config.params) s = { s with
      vga := announced s.vga, out := s.out ++ resizeEvents s.vga } := by
  by_cases h : s.vga.lastSize = some (s.vga.screenSize Config.params)
  · simp [announceSize, announced, resizeEvents, h]
  · simp only [announceSize, announced, resizeEvents, h]
    rfl

/-- Announcing a size changes the clean tiles and the announced size alone. -/
theorem announced_eq (v : Vga) : announced v = { v with
    lastSize := some (v.screenSize Config.params), clean := (announced v).clean } := by
  unfold announced
  split
  next h => rw [← h]
  next => rfl

/-- The tiles the next graphics update redraws, in row-major order. -/
def screenTiles (v : Vga) : List Tile :=
  redrawn (v.screenSize Config.params) (announced v) (gridTiles Config.params)

theorem onScreen_iff {C : Params} {size : Nat × Nat} {t : Tile} : onScreen C size t = true ↔
    t.col * C.xTileSize < size.1 ∧ t.row * C.yTileSize < size.2 := by
  simp [onScreen]

theorem mem_screenTiles {v : Vga} {t : Tile} :
    t ∈ screenTiles v ↔ InGrid t ∧ (announced v).dirty t = true ∧
      onScreen Config.params (v.screenSize Config.params) t = true := by
  simp [screenTiles, redrawn, mem_gridTiles, InGrid]

theorem screenTiles_nodup (v : Vga) : (screenTiles v).Nodup := (gridTiles_nodup _).filter _

/-- A graphics update: the announcement, then the redraws of the tiles dirty by then. -/
theorem vgaUpdate_of_graphicsMode {s : State} (h : s.vga.graphicsMode = true) :
    vgaUpdate Config.params s = { s with
      vga := clearTiles (screenTiles s.vga) (announced s.vga)
      out := s.out ++ resizeEvents s.vga ++
        redrawEvents (announced s.vga) (screenTiles s.vga) } := by
  have hmode : (announced s.vga).graphicsMode = true := by
    rw [announced_eq]
    exact h
  simp only [vgaUpdate, h, announceSize_eq, hmode]
  exact redrawTiles_eq _ (gridTiles_nodup _) _

/-- After a graphics update every tile on the screen is clean (R300). -/
theorem vgaUpdate_cleans_screen {s : State} (h : s.vga.graphicsMode = true) {t : Tile}
    (ht : InGrid t) (hscreen : onScreen Config.params (s.vga.screenSize Config.params) t = true) :
    (vgaUpdate Config.params s).vga.dirty t = false := by
  rw [vgaUpdate_of_graphicsMode h]
  refine Bool.eq_false_iff.2 fun hdirty => ?_
  obtain ⟨hwas, hnot⟩ := clearTiles_dirty_iff.1 hdirty
  exact hnot (mem_screenTiles.2 ⟨ht, hwas, hscreen⟩)

/-- A graphics update leaves the adapter but for the clean tiles and the size announced. -/
theorem vgaUpdate_vga {s : State} (h : s.vga.graphicsMode = true) :
    ∃ ts, (vgaUpdate Config.params s).vga =
      { s.vga with lastSize := some (s.vga.screenSize Config.params), clean := ts } := by
  refine ⟨(clearTiles (screenTiles s.vga) (announced s.vga)).clean, ?_⟩
  rw [vgaUpdate_of_graphicsMode h, clearTiles, clearTiles_eq, announced_eq]

/-- With its size announced, an adapter is not announced again. -/
theorem announced_of_announced {v : Vga} (h : v.lastSize = some (v.screenSize Config.params)) :
    announced v = v ∧ resizeEvents v = [] :=
  ⟨if_pos h, if_pos h⟩

/-! ### The cycle (42_vga_memory_codec.md R272) -/

/-- The state a `vga_update` transaction leaves. -/
def updated (s : State) : State := (vgaUpdate Config.params s).answer .unit

theorem exec_callVgaUpdate (s : State) : exec .callVgaUpdate s = .next (updated s) := rfl

theorem updated_out {s : State} (h : s.vga.graphicsMode = true) : (updated s).out =
    s.out ++ resizeEvents s.vga ++ redrawEvents (announced s.vga) (screenTiles s.vga) :=
  congrArg State.out (vgaUpdate_of_graphicsMode h)

/-- The state a window write leaves. -/
def written (a : PhysAddr) (d : Byte) (s : State) : State :=
  (memWrite Config.params a d s).answer .unit

theorem exec_mwr_written (a : PhysAddr) (d : Byte) (s : State) :
    exec (.mwr a d) s = .next (written a d s) := rfl

section Cycle
variable {s : State} (hgraphics : s.vga.graphicsMode = true)
include hgraphics

/-- An update leaves the window, the map mask, the mode and the geometry a write goes by. -/
theorem updated_window {a : PhysAddr} {off : BitVec 16} (hoff : s.vga.resolve a = some off)
    (hstores : WriteStores s.vga off) :
    (updated s).vga.resolve a = some off ∧ WriteStores (updated s).vga off ∧
      (updated s).vga.graphicsMode = true ∧ (updated s).vga.lineOffset = s.vga.lineOffset ∧
      ∀ t, Touches (updated s).vga off t ↔ Touches s.vga off t := by
  obtain ⟨ts, hu⟩ := vgaUpdate_vga hgraphics
  simp only [updated, State.answer_vga, hu]
  exact ⟨hoff, hstores, hgraphics, rfl, fun _ => .rfl⟩

/-- An update and a write leave the mode and the size, and the size is announced. -/
theorem written_updated_screen (a : PhysAddr) (d : Byte) :
    (written a d (updated s)).vga.graphicsMode = true ∧
    (written a d (updated s)).vga.screenSize Config.params = s.vga.screenSize Config.params ∧
    (written a d (updated s)).vga.lastSize = some (s.vga.screenSize Config.params) := by
  obtain ⟨ts, hu⟩ := vgaUpdate_vga hgraphics
  rw [written, State.answer_vga, memWrite_frame, updated, State.answer_vga, hu]
  exact ⟨hgraphics, rfl, rfl⟩

/-- On the screen an update leaves nothing dirty, so after the write the byte's tiles alone are. -/
theorem written_updated_dirty_iff {a : PhysAddr} {off : BitVec 16} (d : Byte)
    (hoff : s.vga.resolve a = some off) (hstores : WriteStores s.vga off)
    (hline : s.vga.lineOffset ≠ 0) {t : Tile} (ht : InGrid t)
    (hscreen : onScreen Config.params (s.vga.screenSize Config.params) t = true) :
    (written a d (updated s)).vga.dirty t = true ↔ Touches s.vga off t := by
  obtain ⟨hoff', hstores', hgraphics', hline', htouches⟩ := updated_window hgraphics hoff hstores
  have hclean : (updated s).vga.dirty t = false := vgaUpdate_cleans_screen hgraphics ht hscreen
  calc (written a d (updated s)).vga.dirty t = true
      ↔ (updated s).vga.dirty t = true ∨ Touches (updated s).vga off t :=
        memWrite_dirty_iff hoff' hstores' d hgraphics' (hline' ▸ hline) ht
    _ ↔ Touches s.vga off t := by simp [hclean, htouches]

end Cycle

/-- Settles O41: the second update has no size to announce, and redraws what is dirty on the screen,
by `written_updated_dirty_iff` the byte's tiles. -/
theorem tileDirtyCleanCycle : Obligations.TileDirtyCleanCycle := by
  intro s a d off hoff hstores hgraphics hline
  obtain ⟨hoff', hstores', -⟩ := updated_window hgraphics hoff hstores
  obtain ⟨hmode, hsize, hlast⟩ := written_updated_screen hgraphics a d
  obtain ⟨hannounced, hresize⟩ := announced_of_announced (hsize ▸ hlast)
  refine ⟨updated s, written a d (updated s), updated (written a d (updated s)),
    screenTiles (written a d (updated s)).vga, _, exec_callVgaUpdate s, exec_mwr_written a d _,
    exec_callVgaUpdate _, memWrite_out hoff' hstores' d,
    fun e => eq_fontWrite_of_mem_fontEvents, ?_, screenTiles_nodup _, fun t => ?_,
    fun t ht hcol hrow => ?_⟩
  · rw [updated_out hmode, hannounced, hresize, List.append_nil]
  · rw [mem_screenTiles, hannounced, hsize, ← onScreen_iff]
    exact and_congr_right fun ht => and_congr_left fun hscreen =>
      written_updated_dirty_iff hgraphics d hoff hstores hline ht hscreen
  · exact vgaUpdate_cleans_screen hmode ht (hsize ▸ onScreen_iff.2 ⟨hcol, hrow⟩)

end Sys2Proof.Machine
end

section
/-! PROOF. What an update and SCREEN_SIZE do (43_vga_display.md R290-R300): the geometry read from the raw
CRTC registers, the graphics update's redraws and the text update's one. -/

namespace Sys2Proof.Machine

/-! ### CRTC values from raw registers (10_state.md R33, 43_vga_display.md R291-R293) -/

theorem toNat_append_eq_add {m n : Nat} (hi : BitVec m) (lo : BitVec n) :
    (hi ++ lo).toNat = hi.toNat * 2 ^ n + lo.toNat := by
  rw [BitVec.toNat_append, ← Nat.shiftLeft_add_eq_or_of_lt lo.isLt, Nat.shiftLeft_eq]

theorem toNat_extractLsb'_one {n : Nat} (b : BitVec n) (i : Nat) :
    (b.extractLsb' i 1).toNat = (b.getLsbD i).toNat := by
  rw [BitVec.extractLsb'_toNat, BitVec.getLsbD, Nat.toNat_testBit, Nat.shiftRight_eq_div_pow]

theorem startAddr_toNat (v : Vga) :
    v.startAddr.toNat = v.crtc[0x0C].toNat * 256 + v.crtc[0x0D].toNat :=
  toNat_append_eq_add _ _

theorem cursorAddr_toNat (v : Vga) :
    v.cursorAddr.toNat = v.crtc[0x0E].toNat * 256 + v.crtc[0x0F].toNat :=
  toNat_append_eq_add _ _

theorem vde_toNat (v : Vga) : v.vde.toNat = v.crtc[0x12].toNat +
    (v.crtc[0x07].getLsbD 1).toNat * 256 + (v.crtc[0x07].getLsbD 6).toNat * 512 := by
  rw [Vga.vde, toNat_append_eq_add, toNat_append_eq_add, toNat_extractLsb'_one,
    toNat_extractLsb'_one]
  omega

theorem charHeight_eq (v : Vga) : v.charHeight = v.crtc[0x09].toNat % 32 + 1 := by
  rw [Vga.charHeight, Vga.msl, BitVec.extractLsb'_toNat, Nat.shiftRight_zero]

theorem cursor_eq (v : Vga) : v.cursor =
    if v.cursorAddr.toNat < v.startAddr.toNat then none
    else some ((v.cursorAddr.toNat - v.startAddr.toNat) % v.textCols,
      (v.cursorAddr.toNat - v.startAddr.toNat) / v.textCols) := rfl

/-! ### SCREEN_SIZE (43_vga_display.md R291) -/

theorem exec_callScreenSize (s : State) : exec .callScreenSize s =
    .next (s.answer
      (.size (s.vga.screenSize Config.params).1 (s.vga.screenSize Config.params).2)) := rfl

theorem screenSize_of_sig320x240 {C : Params} {v : Vga} (h : C.sig320x240 v.crtc = true) :
    v.screenSize C = (320, 240) :=
  if_pos h

theorem screenSize_of_not_sig320x240 {C : Params} {v : Vga} (h : ¬C.sig320x240 v.crtc = true) :
    v.screenSize C = ((v.crtc[0x01].toNat + 1) * 8, v.vde.toNat + 1) :=
  if_neg h

/-- Settles O37: the two branches of the size, with VDE's ten bits as a sum. -/
theorem screenSizeRule : Obligations.ScreenSizeRule := by
  intro s
  rw [exec_callScreenSize]
  by_cases h : Config.params.sig320x240 s.vga.crtc = true
  · rw [screenSize_of_sig320x240 h, if_pos h]
    rfl
  · rw [screenSize_of_not_sig320x240 h, if_neg h, vde_toNat]
    rfl

/-! ### The frame of an update (43_vga_display.md R290) -/

/-- Settles O38: `vgaUpdate_change` says everything an update can do. -/
theorem updateWritesNoRegister : Obligations.UpdateWritesNoRegister := by
  intro s
  obtain ⟨es, ts, size, hchange, -⟩ := vgaUpdate_change Config.params s
  refine ⟨updated s, es, exec_callVgaUpdate s, ?_⟩
  rw [updated, hchange]
  rfl

/-! ### The graphics update (43_vga_display.md R296, R298, R300) -/

/-- Cleaning tiles changes the adapter's clean tiles alone. -/
theorem clearTiles_frame (ts : List Tile) (v : Vga) :
    clearTiles ts v = { v with clean := (clearTiles ts v).clean } := by
  rw [clearTiles, clearTiles_eq]

/-- Settles O39: the redraws are those of the tiles in `screenTiles`, which the update then cleans. -/
theorem graphicsUpdateRedrawsDirtyTiles : Obligations.GraphicsUpdateRedrawsDirtyTiles := by
  intro s hgraphics size tiles
  have htiles : screenTiles s.vga = tiles :=
    List.filter_congr fun tile _ => (Bool.and_assoc ..).symm
  have hupdate := vgaUpdate_of_graphicsMode hgraphics
  rw [htiles] at hupdate
  have hvga : (updated s).vga = clearTiles tiles (announced s.vga) := congrArg State.vga hupdate
  refine ⟨updated s, exec_callVgaUpdate s, ?_, fun tile => ?_⟩
  · rw [hvga, ← clearTiles_frame, updated, hupdate]
    rfl
  · rw [hvga, clearTiles_dirty_iff]

/-! ### The text update (43_vga_display.md R292, R293, R296, R297, R299) -/

/-- The tiles of the grid on a screen of the adapter's size. -/
def visibleTiles (v : Vga) : List Tile :=
  (gridTiles Config.params).filter (onScreen Config.params (v.screenSize Config.params))

theorem mem_visibleTiles {v : Vga} {t : Tile} (ht : InGrid t) : t ∈ visibleTiles v ↔
    t.col * Config.params.xTileSize < (v.screenSize Config.params).1 ∧
      t.row * Config.params.yTileSize < (v.screenSize Config.params).2 := by
  rw [visibleTiles, List.mem_filter, onScreen_iff]
  exact and_iff_right (mem_gridTiles.2 ht)

/-- The redraw an adapter's text screen gets (R299). -/
def textEvent (v : Vga) : OutEvent :=
  .textRedraw v.startAddr v.cursor v.textCols (v.textRows Config.params)
    (Config.params.render v .text)

/-- An announced adapter's text redraw carries the geometry of the adapter before the announcement. -/
theorem textEvent_announced (v : Vga) : textEvent (announced v) =
    .textRedraw v.startAddr v.cursor v.textCols (v.textRows Config.params)
      (Config.params.render (announced v) .text) := by
  rw [textEvent, announced_eq]
  rfl

/-- In text mode with MSL = 0 an update does nothing (R297). -/
theorem vgaUpdate_of_msl_zero {s : State} (hmode : s.vga.graphicsMode = false)
    (hmsl : s.vga.msl = 0) : vgaUpdate Config.params s = s :=
  if_pos (by rw [hmode, hmsl]; rfl)

/-- A text update: the announcement, then one redraw, and the tiles on the screen clean. -/
theorem vgaUpdate_of_text {s : State} (hmode : s.vga.graphicsMode = false)
    (hmsl : s.vga.msl ≠ 0) : vgaUpdate Config.params s = { s with
      vga := clearTiles (visibleTiles s.vga) (announced s.vga)
      out := s.out ++ resizeEvents s.vga ++ [textEvent (announced s.vga)] } := by
  have hruns : ¬(!s.vga.graphicsMode && s.vga.msl == 0) = true := by simpa [hmode] using hmsl
  have hannounced : (announced s.vga).graphicsMode = false := by
    rw [announced_eq]
    exact hmode
  calc vgaUpdate Config.params s
      = redrawScreen Config.params _ (announceSize (s.vga.screenSize Config.params) s) :=
        if_neg hruns
    _ = textUpdate Config.params _ (announceSize (s.vga.screenSize Config.params) s) := by
        rw [announceSize_eq]
        exact if_neg (Bool.eq_false_iff.1 hannounced)
    _ = _ := by
        rw [announceSize_eq]
        rfl

/-- Settles O40: the skip and the redraw are the two cases of MSL; the redraw's geometry is read from the
raw CRTC registers. -/
theorem textUpdateRedrawsTheScreen : Obligations.TextUpdateRedrawsTheScreen := by
  intro s hmode
  refine ⟨fun hmsl => ?_, fun hmsl => ?_⟩
  · rw [exec_callVgaUpdate, updated, vgaUpdate_of_msl_zero hmode hmsl]
    rfl
  · have hupdate := vgaUpdate_of_text hmode hmsl
    have hvga : (updated s).vga = clearTiles (visibleTiles s.vga) (announced s.vga) :=
      congrArg State.vga hupdate
    refine ⟨updated s, exec_callVgaUpdate s, ?_, fun tile htile => ?_⟩
    · rw [hvga, ← clearTiles_frame, updated, hupdate, textEvent_announced, cursor_eq, Vga.textRows,
        charHeight_eq, ← startAddr_toNat, ← cursorAddr_toNat, BitVec.ofNat_toNat,
        BitVec.setWidth_eq]
      rfl
    · rw [hvga, clearTiles_dirty_iff, mem_visibleTiles htile]

end Sys2Proof.Machine
end

section
/-! PROOF. The PIC (44_pic.md): which line each search of the lines finds, one equation per case of
REQUEST_IRQ, SET_IRQ, CLEAR_IRQ and INTA (R321-R324), and the lines a run of requests hands out (R327). -/

namespace Sys2Proof.Machine

/-! ### Searching the lines -/

/-- A search of the lines in order finds the lowest one that passes. -/
theorem find?_lines_eq_some_iff {f : Line → Bool} {n : Line} :
    (List.finRange 16).find? f = some n ↔ f n = true ∧ ∀ k < n, ¬f k = true := by
  rw [← List.ofFn_id]
  exact List.find?_ofFn_eq_some_of_injective Function.injective_id

theorem ownedLine_eq_some_iff {p : Pic} {m : ModuleRef} {n : Line} :
    p.ownedLine m = some n ↔
      p.owner.get n = some m ∧ ∀ k < n, p.owner.get k ≠ some m := by
  simp [Pic.ownedLine, find?_lines_eq_some_iff]

theorem ownedLine_eq_none_iff {p : Pic} {m : ModuleRef} :
    p.ownedLine m = none ↔ ∀ n : Line, p.owner.get n ≠ some m :=
  ⟨ownedLine_none, fun h => List.find?_eq_none.2 fun n _ => by simpa using h n⟩

theorem lowestRaised_eq_some_iff {p : Pic} {n : Line} :
    p.lowestRaised = some n ↔ p.raised.get n = true ∧ ∀ k < n, p.raised.get k = false := by
  simp [Pic.lowestRaised, find?_lines_eq_some_iff]

theorem freeLine_eq_head?_filter (C : Params) (p : Pic) :
    p.freeLine C = (C.irqPool.filter fun n => p.owner.get n = none).head? := by
  rw [List.head?_filter]
  exact congrArg (List.find? · _) (funext fun n => Bool.eq_iff_iff.2 (by simp))

theorem lineOfNumber_of_toNat {b : Byte} {n : Line} (h : b.toNat = n.val + 1) :
    lineOfNumber b = some n := by
  have hrange : 1 ≤ b.toNat ∧ b.toNat ≤ 16 := by omega
  rw [lineOfNumber, dif_pos hrange]
  exact congrArg some (Fin.ext (by simp [h]))

theorem ownedNumber_eq_some_iff {p : Pic} {b : Byte} {n : Line} :
    p.ownedNumber b = some n ↔ b.toNat = n.val + 1 ∧ p.owner.get n ≠ none := by
  constructor
  · intro h
    obtain ⟨hb, howned⟩ := ownedNumber_some h
    exact ⟨hb, Option.isSome_iff_ne_none.1 howned⟩
  · rintro ⟨hb, howned⟩
    simp [Pic.ownedNumber, lineOfNumber_of_toNat hb, Option.isSome_iff_ne_none.2 howned]

/-- The numbers R322 and R323 log and ignore: none of them names an owned line. -/
theorem ownedNumber_eq_none {p : Pic} {b : Byte}
    (h : b.toNat < 1 ∨ 16 < b.toNat ∨ ∃ n : Line, b.toNat = n.val + 1 ∧ p.owner.get n = none) :
    p.ownedNumber b = none := by
  by_contra hsome
  obtain ⟨k, hk⟩ := Option.ne_none_iff_exists'.1 hsome
  obtain ⟨hbk, howned⟩ := ownedNumber_eq_some_iff.1 hk
  rcases h with hlow | hhigh | ⟨n, hbn, hfree⟩
  · omega
  · omega
  · have hnk : n = k := Fin.ext (by omega)
    exact howned (hnk ▸ hfree)

/-! ### Calls (R321-R323) -/

theorem requestIrq_of_owned {C : Params} {m : ModuleRef} {s : State} {n : Line}
    (h : s.pic.ownedLine m = some n) : requestIrq C m s = (s, some n) := by
  rw [requestIrq, h]

theorem requestIrq_of_free {C : Params} {m : ModuleRef} {s : State} {n : Line}
    (hnone : s.pic.ownedLine m = none) (hfree : s.pic.freeLine C = some n) :
    requestIrq C m s =
      (s.setPic { s.pic with owner := s.pic.owner.set n (some m) }, some n) := by
  simp only [requestIrq, hnone, hfree]

theorem requestIrq_of_exhausted {C : Params} {m : ModuleRef} {s : State}
    (hnone : s.pic.ownedLine m = none) (hfree : s.pic.freeLine C = none) :
    requestIrq C m s = (s.record (.irqExhausted m), none) := by
  simp only [requestIrq, hnone, hfree]

theorem changeIrq_of_owned {s : State} {number : Byte} {n : Line}
    (h : s.pic.ownedNumber number = some n) (b : Bool) :
    changeIrq b number s = s.setPic (s.pic.setRaised n b) := by
  rw [changeIrq, h]

theorem changeIrq_of_not_owned {s : State} {number : Byte}
    (h : s.pic.ownedNumber number = none) (b : Bool) :
    changeIrq b number s = s.record (.irqInvalid number) := by
  rw [changeIrq, h]

theorem exec_callRequestIrq (m : ModuleRef) (s : State) :
    exec (.callRequestIrq m) s = .next (answerLine (requestIrq Config.params m s)) := rfl

theorem exec_callSetIrq (b : Byte) (s : State) :
    exec (.callSetIrq b) s = .next ((changeIrq true b s).answer .unit) := rfl

theorem exec_callClearIrq (b : Byte) (s : State) :
    exec (.callClearIrq b) s = .next ((changeIrq false b s).answer .unit) := rfl

theorem exec_callInta (s : State) :
    exec .callInta s = .next (acknowledge Config.params s) := rfl

/-- Settles O42: the three cases of `requestIrq`; the free line is the head of the pool's free lines. -/
theorem requestIrqRule : Obligations.RequestIrqRule := by
  intro s m
  constructor
  · intro n howned hlowest
    rw [exec_callRequestIrq, requestIrq_of_owned (ownedLine_eq_some_iff.2 ⟨howned, hlowest⟩)]
    rfl
  · intro hnone
    have hfree := freeLine_eq_head?_filter Config.params s.pic
    rw [exec_callRequestIrq]
    cases hpool : Config.params.irqPool.filter fun n => s.pic.owner.get n = none with
    | nil =>
      rw [hpool] at hfree
      rw [requestIrq_of_exhausted (ownedLine_eq_none_iff.2 hnone) hfree]
      rfl
    | cons n rest =>
      rw [hpool] at hfree
      rw [requestIrq_of_free (ownedLine_eq_none_iff.2 hnone) hfree]
      rfl

/-- Settles O43: whether the number names an owned line decides both calls. -/
theorem setAndClearIrq : Obligations.SetAndClearIrq := by
  intro s b
  constructor
  · intro n hb howned
    have hn := ownedNumber_eq_some_iff.2 ⟨hb, howned⟩
    rw [exec_callSetIrq, exec_callClearIrq, changeIrq_of_owned hn, changeIrq_of_owned hn]
    exact ⟨rfl, rfl⟩
  · intro hinvalid
    have hnone := ownedNumber_eq_none hinvalid
    rw [exec_callSetIrq, exec_callClearIrq, changeIrq_of_not_owned hnone,
      changeIrq_of_not_owned hnone]
    exact ⟨rfl, rfl⟩

/-! ### Acknowledge (R324) -/

theorem acknowledge_of_pending {C : Params} {s : State} {n : Line}
    (hpending : s.pic.intrPending = true) (hlowest : s.pic.lowestRaised = some n) :
    acknowledge C s = (clearIfEdge C n s).answer (.byte (C.vector n)) := by
  rw [acknowledge, if_pos hpending, hlowest]

theorem acknowledge_of_not_pending {C : Params} {s : State} (h : s.pic.intrPending = false) :
    acknowledge C s = (raiseFault .ackNone s).answer .unit := by
  simp [acknowledge, h]

/-- Settles O44: any owned raised line makes an interrupt pending, the lowest raised one is served. -/
theorem acknowledgeServesLowestLine : Obligations.AcknowledgeServesLowestLine := by
  constructor
  · intro s n k hraised howned hn hlowest
    have hpending : s.pic.intrPending = true :=
      intrPending_eq_true_iff.2 ⟨k, hraised, Option.isSome_iff_ne_none.2 howned⟩
    rw [exec_callInta,
      acknowledge_of_pending hpending (lowestRaised_eq_some_iff.2 ⟨hn, hlowest⟩)]
    rcases clearIfEdge_cases Config.params n s with ⟨htrigger, hclear⟩ | ⟨htrigger, hclear⟩ <;>
      rw [hclear, htrigger] <;> rfl
  · intro s hunowned
    have hpending : s.pic.intrPending = false := by
      rw [Bool.eq_false_iff, ne_eq, intrPending_eq_true_iff]
      rintro ⟨n, hraised, howned⟩
      simp [hunowned n hraised] at howned
    rw [exec_callInta, acknowledge_of_not_pending hpending]
    rfl

/-! ### Runs -/

theorem execAll_append_of_next {is js : List Instr} {s t : State} (h : execAll is s = .next t) :
    execAll (is ++ js) s = execAll js t := by
  induction is generalizing s with
  | nil =>
    cases h
    rfl
  | cons i is ih =>
    rw [List.cons_append, execAll]
    rw [execAll] at h
    cases hi : exec i s with
    | next u =>
      rw [hi] at h
      exact ih h
    | fault f => simp [hi] at h
    | refused r => simp [hi] at h

theorem execResults_append_of_next {is js : List Instr} {s t : State}
    (h : execAll is s = .next t) :
    execResults (is ++ js) s = execResults is s ++ execResults js t := by
  induction is generalizing s with
  | nil =>
    cases h
    rfl
  | cons i is ih =>
    rw [execAll] at h
    cases hi : exec i s with
    | next u =>
      rw [hi] at h
      rw [List.cons_append, execResults_cons_of_next hi, execResults_cons_of_next hi, ih h,
        List.cons_append]
    | fault f => simp [hi] at h
    | refused r => simp [hi] at h

/-! ### The lines a run of requests hands out (R327) -/

theorem irqPool_nodup (C : Params) : C.irqPool.Nodup := List.nodup_dedup _

/-- The `i`-th line of the pool belongs to the `i`-th module of `ms`, and every other line is free. A line
outside the pool has the pool's length as its index, where `ms` has no module. -/
def HandedOut (C : Params) (ms : List ModuleRef) (p : Pic) : Prop :=
  ms.length ≤ C.irqPool.length ∧ ∀ n : Line, p.owner.get n = ms[C.irqPool.idxOf n]?

section HandedOut

variable {C : Params} {ms : List ModuleRef} {m : ModuleRef} {p : Pic} {s : State}

theorem handedOut_nil (h : ∀ n : Line, p.owner.get n = none) : HandedOut C [] p :=
  ⟨Nat.zero_le _, h⟩

/-- The owner of the `i`-th line of the pool. -/
theorem HandedOut.owner_get_getElem (h : HandedOut C ms p) {i : Nat} (hi : i < C.irqPool.length) :
    p.owner.get C.irqPool[i] = ms[i]? := by
  rw [h.2, (irqPool_nodup C).idxOf_getElem]

theorem HandedOut.ownedLine_eq_none (h : HandedOut C ms p) (hm : m ∉ ms) :
    p.ownedLine m = none :=
  ownedLine_eq_none_iff.2 fun n hn => hm (List.mem_of_getElem? ((h.2 n).symm.trans hn))

/-- The first free line is the one after those handed out. -/
theorem HandedOut.freeLine_eq_getElem? (h : HandedOut C ms p) :
    p.freeLine C = C.irqPool[ms.length]? := by
  rcases Nat.lt_or_ge ms.length C.irqPool.length with hlt | hge
  · rw [List.getElem?_eq_getElem hlt, Pic.freeLine, List.find?_eq_some_iff_getElem]
    refine ⟨by simp [h.owner_get_getElem], ms.length, hlt, rfl, fun i hi => ?_⟩
    simp [h.owner_get_getElem, hi]
  · rw [List.getElem?_eq_none hge, Pic.freeLine, List.find?_eq_none]
    intro n hn
    obtain ⟨i, hi, rfl⟩ := List.getElem_of_mem hn
    simp [h.owner_get_getElem, hi.trans_le hge]

theorem HandedOut.concat (h : HandedOut C ms p) (hlt : ms.length < C.irqPool.length) :
    HandedOut C (ms ++ [m])
      { p with owner := p.owner.set C.irqPool[ms.length] (some m) } := by
  refine ⟨by simpa using hlt, fun n => ?_⟩
  rw [get_set_line]
  split
  next hn => rw [← hn, (irqPool_nodup C).idxOf_getElem, List.getElem?_concat_length]
  next hn =>
    have hne : C.irqPool.idxOf n ≠ ms.length := fun hidx => hn <| by
      simp only [← hidx, List.getElem_idxOf]
    rw [h.2]
    rcases hne.lt_or_gt with hidx | hidx
    · rw [List.getElem?_append_left hidx]
    · rw [List.getElem?_eq_none hidx.le, List.getElem?_eq_none (by simpa using hidx)]

/-- A new module gets the next line of the pool. -/
theorem HandedOut.exec_next (h : HandedOut Config.params ms s.pic) (hm : m ∉ ms)
    (hlt : ms.length < Config.params.irqPool.length) :
    ∃ t, exec (.callRequestIrq m) s = .next t ∧
      t.result = .line (some Config.params.irqPool[ms.length]) ∧
      HandedOut Config.params (ms ++ [m]) t.pic := by
  have hfree := h.freeLine_eq_getElem?.trans (List.getElem?_eq_getElem hlt)
  rw [exec_callRequestIrq, requestIrq_of_free (h.ownedLine_eq_none hm) hfree]
  exact ⟨_, rfl, rfl, h.concat hlt⟩

/-- A new module gets NONE where every line of the pool is handed out. -/
theorem HandedOut.exec_exhausted (h : HandedOut Config.params ms s.pic) (hm : m ∉ ms)
    (hfull : ms.length = Config.params.irqPool.length) :
    ∃ t, exec (.callRequestIrq m) s = .next t ∧ t.result = .line none := by
  have hfree := h.freeLine_eq_getElem?.trans (List.getElem?_eq_none hfull.ge)
  rw [exec_callRequestIrq, requestIrq_of_exhausted (h.ownedLine_eq_none hm) hfree]
  exact ⟨_, rfl, rfl⟩

/-- Distinct modules asking in turn, none of the lines owned before: each gets the next line. -/
theorem requests_handOut (hfree : ∀ n : Line, s.pic.owner.get n = none) (hms : ms.Nodup)
    (hle : ms.length ≤ Config.params.irqPool.length) :
    ∃ t, execAll (ms.map .callRequestIrq) s = .next t ∧
      HandedOut Config.params ms t.pic ∧
      execResults (ms.map .callRequestIrq) s =
        (Config.params.irqPool.take ms.length).map fun n => .line (some n) := by
  induction ms using List.reverseRecOn with
  | nil => exact ⟨s, rfl, handedOut_nil hfree, rfl⟩
  | append_singleton ms m ih =>
    rw [← List.concat_eq_append, List.nodup_concat] at hms
    obtain ⟨hm, hms⟩ := hms
    have hlt : ms.length < Config.params.irqPool.length := by simpa using hle
    obtain ⟨t, hrun, hout, hresults⟩ := ih hms hlt.le
    obtain ⟨u, hstep, hline, hout⟩ := hout.exec_next hm hlt
    refine ⟨u, ?_, hout, ?_⟩
    · rw [List.map_append, execAll_append_of_next hrun]
      exact execAll_cons_of_next hstep
    · rw [List.map_append, execResults_append_of_next hrun, hresults, List.map_singleton,
        execResults_cons_of_next hstep, hline, List.length_append, List.length_singleton,
        ← List.take_append_getElem hlt, List.map_append]
      rfl

end HandedOut

/-- Settles O45: the lines handed out are the pool's in order, by induction on the modules that asked; a
module more finds none free. -/
theorem irqUniqueness : Obligations.IrqUniqueness := by
  refine ⟨irqPool_nodup _, fun s ms hfree hms hle => ?_⟩
  obtain ⟨t, hrun, hout, hresults⟩ := requests_handOut hfree hms hle
  refine ⟨hresults, fun m hm hfull => ?_⟩
  obtain ⟨u, hstep, hline⟩ := hout.exec_exhausted hm hfull
  rw [List.map_append, execResults_append_of_next hrun, hresults, hfull, List.take_length,
    List.map_singleton, execResults_cons_of_next hstep, hline]
  rfl

end Sys2Proof.Machine
end

section
/-! PROOF. The boot sequence (70_reset_and_hazards.md R450, R451): what its steps leave of modules, timers
and liveness, the list of the steps that fail, and that the E_CONFIG entries are that list. -/

namespace Sys2Proof.Machine

/-! ### The steps' operations -/

theorem registryAdd_foldl (xs ms : List Module) : xs.foldl registryAdd ms = ms ++ xs := by
  induction xs generalizing ms with
  | nil => simp
  | cons x xs ih => simp [ih, registryAdd]

theorem createModules_eq (ms : List Module) (s : State) :
    createModules ms s = (s.setModules ms, creationOrderOk (ms.map Module.kind)) := by
  simp [createModules, registryAdd_foldl]

@[simp] theorem wireOp_bus (s : State) : (wireOp s).bus = s.bus := rfl
@[simp] theorem wireOp_live (s : State) : (wireOp s).live = s.live := rfl

@[simp] theorem wireOp_kinds (s : State) :
    (wireOp s).modules.map Module.kind = s.modules.map Module.kind :=
  List.map_map.trans rfl

@[simp] theorem pushTiming_nil (C : Params) (s : State) : pushTiming C [] s = s := rfl

@[simp] theorem pushTiming_cons (C : Params) (x : ModuleRef × Int) (ts : List (ModuleRef × Int))
    (s : State) : pushTiming C (x :: ts) s = pushTiming C ts (resetTimer C x.1 x.2 s) := rfl

theorem pushTiming_changesOnly (A : Part → Prop) (C : Params) (ts : List (ModuleRef × Int))
    (s : State) : ChangesOnly A s (pushTiming C ts s) := by
  induction ts generalizing s with
  | nil => exact .refl A s
  | cons x ts ih => exact (resetTimer_changesOnly C x.1 x.2 s).trans (ih _)

@[simp] theorem pushTiming_modules (C : Params) (ts : List (ModuleRef × Int)) (s : State) :
    (pushTiming C ts s).modules = s.modules :=
  (pushTiming_changesOnly (fun _ => False) C ts s).modules id

@[simp] theorem pushTiming_live (C : Params) (ts : List (ModuleRef × Int)) (s : State) :
    (pushTiming C ts s).live = s.live :=
  (pushTiming_changesOnly (fun _ => False) C ts s).liveness id

/-- A push before any timer is requested finds none, so it makes none (R451). -/
theorem pushTiming_bus_of_no_timers (C : Params) (ts : List (ModuleRef × Int)) {s : State}
    (h : s.bus.timers = []) : (pushTiming C ts s).bus = s.bus := by
  induction ts generalizing s with
  | nil => rfl
  | cons x ts ih =>
    have hnone : resetTimer C x.1 x.2 s = s.record (.noTimer x.1) :=
      updateTimer_of_none (by simp [h]) _
    rw [pushTiming_cons, hnone]
    exact ih h

/-- What replacing the module list keeps, a list of debug flags keeps. -/
theorem applyDebugs_keeps {P : State → Prop} (h : ∀ s ms, P s → P (s.setModules ms))
    {xs : List (ModuleRef × Bool)} {s : State} (hs : P s) : P (xs.foldl applyDebug s) :=
  List.foldlRecOn xs applyDebug hs fun t ht _ _ => h t _ ht

@[simp] theorem applyDebugs_bus (xs : List (ModuleRef × Bool)) (s : State) :
    (xs.foldl applyDebug s).bus = s.bus :=
  applyDebugs_keeps (P := fun t => t.bus = s.bus) (fun _ _ => id) rfl

@[simp] theorem applyDebugs_live (xs : List (ModuleRef × Bool)) (s : State) :
    (xs.foldl applyDebug s).live = s.live :=
  applyDebugs_keeps (P := fun t => t.live = s.live) (fun _ _ => id) rfl

theorem applyDebug_kinds (s : State) (x : ModuleRef × Bool) :
    (applyDebug s x).modules.map Module.kind = s.modules.map Module.kind := by
  refine List.ext_getElem (by simp [applyDebug]) fun i _ _ => ?_
  simp only [applyDebug, State.setModules_modules, List.getElem_map, List.getElem_modify]
  split <;> rfl

@[simp] theorem applyDebugs_kinds (xs : List (ModuleRef × Bool)) (s : State) :
    (xs.foldl applyDebug s).modules.map Module.kind = s.modules.map Module.kind := by
  induction xs generalizing s with
  | nil => rfl
  | cons x xs ih => rw [List.foldl_cons, ih, applyDebug_kinds]

theorem resetOp_keeps (C : Params) (s : State) :
    ChangesOnly (MayChange .callReset) s (resetOp C s).1 :=
  resetOp_changesOnly .resetLatch .resetRaised C s

@[simp] theorem resetOp_modules (C : Params) (s : State) : (resetOp C s).1.modules = s.modules :=
  (resetOp_keeps C s).modules nofun

@[simp] theorem resetOp_live (C : Params) (s : State) : (resetOp C s).1.live = s.live :=
  (resetOp_keeps C s).liveness nofun

/-! ### The timer after a RESET of the block alone -/

theorem bindPort_timers (p : Port) (m : ModuleRef) (s : State) :
    (bindPort p m s).1.bus.timers = s.bus.timers := by
  rcases bindPort_cases p m s with ⟨-, h⟩ | ⟨-, h⟩ | ⟨o, -, -, h⟩ <;> rw [h] <;> rfl

theorem bindPorts_timers (m : ModuleRef) (ps : List Port) (s : State) :
    (bindPorts m ps s).1.bus.timers = s.bus.timers :=
  andAll_keeps (P := fun t => t.bus.timers = s.bus.timers)
    (List.forall_mem_map.2 fun p _ t ht => (bindPort_timers p m t).trans ht) rfl

/-- The VGA's reset requests its timer, here the first of all. -/
theorem resetVideo_timers_of_no_timers (C : Params) (m : ModuleRef) {s : State}
    (h : s.bus.timers = []) :
    (resetVideo C m s).1.bus.timers = [Timer.mk m C.vgaUpdateIntervalUs true 0] := by
  have hbound : (bindPorts m vgaPorts (s.setVga (vgaResetValue s.vga.planes))).1.bus.timers = [] :=
    (bindPorts_timers ..).trans h
  simp only [resetVideo]
  rw [requestTimer_of_none (by simp [hbound]), State.withTimers_timers, hbound]
  simp [normalizeInterval]

/-- Motherboard and PIC request no timer, so the VGA's is the only one (R443-R445). -/
theorem resetOp_timers_of_block_alone (C : Params) {s : State}
    (hkinds : s.modules.map Module.kind = [.motherboard, .pic, .video])
    (h : s.bus.timers = []) :
    (resetOp C s).1.bus.timers = [Timer.mk 2 C.vgaUpdateIntervalUs true 0] := by
  simp only [List.map_eq_cons_iff, List.map_eq_nil_iff] at hkinds
  obtain ⟨mb, -, hs, hmb, pic, -, rfl, hpic, video, -, rfl, hvideo, rfl⟩ := hkinds
  simp only [resetOp, hs, resetModules_cons, resetModules_nil, hmb, hpic, hvideo, resetModule,
    resetMotherboard, Nat.zero_add, Nat.reduceAdd]
  rw [resetVideo_timers_of_no_timers]
  exact h

/-! ### The steps that fail -/

/-- The steps of a pass that answer false, each asked in the state the ones before it left. -/
def failedSteps (fs : List SetupStep) :
    List (SetupStep × (State → State × Bool)) → State → List SetupStep
  | [], _ => []
  | x :: xs, s =>
    (if (setupStep fs x s).2 then [] else [x.1]) ++ failedSteps fs xs (setupStep fs x s).1

section
variable {fs : List SetupStep} {x : SetupStep × (State → State × Bool)}
  {xs : List (SetupStep × (State → State × Bool))} {s : State}

theorem setupStep_of_failure (h : x.1 ∈ fs ∨ (x.2 s).2 = false) :
    setupStep fs x s = ((x.2 s).1.record (.config x.1), false) := by
  rcases setupStep_cases fs x s with ⟨hmem, htrue, -⟩ | ⟨-, hfail⟩
  · simp [hmem, htrue] at h
  · exact hfail

theorem failedSteps_sublist (fs : List SetupStep) (xs : List (SetupStep × (State → State × Bool)))
    (s : State) : (failedSteps fs xs s).Sublist (xs.map Prod.fst) := by
  induction xs generalizing s with
  | nil => exact .refl _
  | cons x xs ih =>
    rw [failedSteps]
    split
    · exact (ih _).cons x.1
    · exact (ih _).cons_cons x.1

/-- The pass ANDs the steps' answers. -/
theorem andAll_setupStep_iff :
    (andAll (xs.map (setupStep fs)) s).2 = true ↔ failedSteps fs xs s = [] := by
  induction xs generalizing s with
  | nil => simp [failedSteps]
  | cons x xs ih => simp [failedSteps, ih]

/-- A step that fails at the head of a pass is among the failed ones. -/
theorem head_mem_failedSteps (h : x.1 ∈ fs ∨ (x.2 s).2 = false) :
    x.1 ∈ failedSteps fs (x :: xs) s := by
  simp [failedSteps, setupStep_of_failure h]

/-- A step the plan makes fail, fails in whatever state it runs. -/
theorem mem_failedSteps_of_mem_failures (hx : x ∈ xs) (hfs : x.1 ∈ fs) :
    x.1 ∈ failedSteps fs xs s := by
  induction hx generalizing s with
  | head => exact head_mem_failedSteps (.inl hfs)
  | tail y _ ih => exact List.mem_append_right _ ih

end

/-! ### No operation of the block records E_CONFIG -/

/-- The steps the log's E_CONFIG entries name. -/
def State.configSteps (s : State) : List SetupStep := s.log.filterMap configStep

@[simp] theorem State.configSteps_record (s : State) (e : LogEvent) :
    (s.record e).configSteps = s.configSteps ++ (configStep e).toList := by
  cases h : configStep e <;> simp [State.configSteps, h]

theorem configSteps_of_log_eq {s t : State} (h : t.log = s.log) : t.configSteps = s.configSteps :=
  congrArg (List.filterMap configStep) h

theorem bindPort_configSteps (p : Port) (m : ModuleRef) (s : State) :
    (bindPort p m s).1.configSteps = s.configSteps := by
  rcases bindPort_cases p m s with ⟨-, h⟩ | ⟨-, h⟩ | ⟨o, -, -, h⟩ <;> rw [h]
  · exact configSteps_of_log_eq rfl
  · simp [configStep]

theorem requestIrq_configSteps (C : Params) (m : ModuleRef) (s : State) :
    (requestIrq C m s).1.configSteps = s.configSteps := by
  rcases requestIrq_cases C m s with ⟨n, -, h⟩ | ⟨n, -, -, h⟩ | ⟨-, -, h⟩ <;> rw [h]
  · exact configSteps_of_log_eq rfl
  · simp [configStep]

theorem updateTimer_configSteps (m : ModuleRef) (f : Timer → Timer) (s : State) :
    (updateTimer m f s).configSteps = s.configSteps := by
  rcases updateTimer_cases m f s with ⟨k, -, h⟩ | ⟨-, h⟩ <;> rw [h]
  · exact configSteps_of_log_eq rfl
  · simp [configStep]

/-- A pass of operations none of which records E_CONFIG records none. -/
theorem andAll_configSteps {fs : List (State → State × Bool)}
    (h : ∀ f ∈ fs, ∀ s, (f s).1.configSteps = s.configSteps) (s : State) :
    (andAll fs s).1.configSteps = s.configSteps :=
  andAll_keeps (P := fun t => t.configSteps = s.configSteps)
    (fun f hf t ht => (h f hf t).trans ht) rfl

theorem bindPorts_configSteps (m : ModuleRef) (ps : List Port) (s : State) :
    (bindPorts m ps s).1.configSteps = s.configSteps :=
  andAll_configSteps (List.forall_mem_map.2 fun p _ => bindPort_configSteps p m) s

theorem resetVideo_configSteps (C : Params) (m : ModuleRef) (s : State) :
    (resetVideo C m s).1.configSteps = s.configSteps := by
  simp only [resetVideo]
  exact (configSteps_of_log_eq (requestTimer_log ..)).trans (bindPorts_configSteps m vgaPorts _)

theorem applyResetCall_configSteps (C : Params) (c : ResetCall) (s : State) :
    (applyResetCall C c s).1.configSteps = s.configSteps := by
  cases c with
  | bind p m => exact bindPort_configSteps p m s
  | requestTimer m i a => exact configSteps_of_log_eq (requestTimer_log C m i a s)
  | requestIrq m => exact requestIrq_configSteps C m s

theorem resetModule_configSteps (C : Params) (k : ModuleType) (m : ModuleRef) (s : State) :
    (resetModule C k m s).1.configSteps = s.configSteps := by
  rcases resetModule_cases C k m s with ⟨-, h⟩ | ⟨-, h⟩ | ⟨-, h⟩ | ⟨-, -, -, h⟩ <;> rw [h]
  · exact resetVideo_configSteps C m s
  · rfl
  · rw [resetForeign_eq]
    exact andAll_configSteps
      (List.forall_mem_map.2 fun c _ => applyResetCall_configSteps C c) s.countDraw

theorem resetOp_configSteps (C : Params) (s : State) :
    (resetOp C s).1.configSteps = s.configSteps :=
  andAll_configSteps
    (List.forall_mem_map.2 fun x _ => resetModule_configSteps C x.1.kind x.2) _

/-! ### What one step logs -/

/-- The step's own operation appends entries, E_CONFIG not among them, and E_BIND_CONFLICT only where
the step is the module reset and fails (90_conflicts.md C8). -/
def LogsAsStep (k : SetupStep) (f : State → State × Bool) : Prop :=
  ∀ s, ∃ es, (f s).1.log = s.log ++ es ∧ es.filterMap configStep = [] ∧
    ∀ p o m, .bindConflict p o m ∈ es → k = .resetModules ∧ (f s).2 = false

theorem LogsAsStep.of_log_eq {k : SetupStep} {f : State → State × Bool}
    (h : ∀ s, (f s).1.log = s.log) : LogsAsStep k f :=
  fun s => ⟨[], by simp [h s], rfl, nofun⟩

/-- An entry that is neither E_CONFIG nor E_BIND_CONFLICT. -/
def LogEvent.Quiet (e : LogEvent) : Prop :=
  configStep e = none ∧ ∀ p o m, .bindConflict p o m ≠ e

theorem LogsAsStep.of_quiet {k : SetupStep} {f : State → State × Bool}
    (h : ∀ s, ∃ es, (f s).1.log = s.log ++ es ∧ ∀ e ∈ es, e.Quiet) : LogsAsStep k f := by
  intro s
  obtain ⟨es, hlog, hquiet⟩ := h s
  exact ⟨es, hlog, List.filterMap_eq_nil_iff.2 fun e he => (hquiet e he).1,
    fun p o m hmem => absurd rfl ((hquiet _ hmem).2 p o m)⟩

theorem quiet_of_mem_wiringErrors {ms xs : List Module} {k : ModuleRef} {e : LogEvent}
    (h : e ∈ wiringErrors ms xs k) : e.Quiet := by
  rw [wiringErrors_eq, List.mem_filterMap] at h
  obtain ⟨x, -, hx⟩ := h
  obtain ⟨-, hwiring⟩ := Option.ite_none_left_eq_some.1 hx
  obtain rfl := Option.some.inj hwiring
  exact ⟨rfl, nofun⟩

theorem wireOp_log (s : State) :
    (wireOp s).log = s.log ++ wiringErrors s.modules s.modules 0 := rfl

/-- Pushing the timing parameters logs at most E_NO_TIMER, once for each push. -/
theorem pushTiming_log (C : Params) (ts : List (ModuleRef × Int)) (s : State) :
    ∃ es, (pushTiming C ts s).log = s.log ++ es ∧ ∀ e ∈ es, e.Quiet := by
  induction ts generalizing s with
  | nil => exact ⟨[], by simp, nofun⟩
  | cons x ts ih =>
    obtain ⟨es, hlog, hquiet⟩ := ih (resetTimer C x.1 x.2 s)
    rw [pushTiming_cons, hlog]
    rcases updateTimer_cases x.1 _ s with ⟨k, -, h⟩ | ⟨-, h⟩ <;> rw [resetTimer, h]
    · exact ⟨es, rfl, hquiet⟩
    · exact ⟨.noTimer x.1 :: es, by simp, List.forall_mem_cons.2 ⟨⟨rfl, nofun⟩, hquiet⟩⟩

theorem applyDebugs_log (xs : List (ModuleRef × Bool)) (s : State) :
    (xs.foldl applyDebug s).log = s.log :=
  applyDebugs_keeps (P := fun t => t.log = s.log) (fun _ _ => id) rfl

theorem resetOp_logsAsStep (C : Params) : LogsAsStep .resetModules (resetOp C) := by
  intro s
  obtain ⟨es, hlog, hok⟩ := resetOp_failsOnConflict C s
  refine ⟨es, hlog, ?_, fun p o m hmem =>
    ⟨rfl, Bool.eq_false_iff.2 fun htrue => hok htrue p o m hmem⟩⟩
  simpa [State.configSteps, hlog] using resetOp_configSteps C s

/-- Every step of the boot sequence. -/
theorem bootSteps_logAsStep (C : Params) (plan : BootPlan) :
    ∀ x ∈ bootSteps C plan, LogsAsStep x.1 x.2 := by
  have houtside : ∀ k, LogsAsStep k outsideStep := fun _ => .of_log_eq fun _ => rfl
  simp only [bootSteps, List.forall_mem_cons]
  exact ⟨.of_log_eq fun _ => rfl,
    .of_quiet fun s => ⟨_, wireOp_log s, fun _ => quiet_of_mem_wiringErrors⟩,
    .of_quiet (pushTiming_log C plan.timing), resetOp_logsAsStep C,
    houtside _, houtside _, houtside _, houtside _, houtside _,
    .of_log_eq (applyDebugs_log plan.debugFlags), nofun⟩

/-! ### What the pass logs -/

/-- A step's entries: those of its operation, and its own E_CONFIG where it fails. -/
theorem setupStep_log (fs : List SetupStep) {x : SetupStep × (State → State × Bool)}
    (hx : LogsAsStep x.1 x.2) (s : State) :
    ∃ es, (setupStep fs x s).1.log = s.log ++ es ∧
      es.filterMap configStep = (if (setupStep fs x s).2 then [] else [x.1]) ∧
      ∀ p o m, .bindConflict p o m ∈ es → x.1 = .resetModules ∧ (setupStep fs x s).2 = false := by
  obtain ⟨es, hlog, hconfig, hconflict⟩ := hx s
  rcases setupStep_cases fs x s with ⟨-, htrue, h⟩ | ⟨-, h⟩ <;> rw [h]
  · exact ⟨es, hlog, hconfig, by simpa [htrue] using hconflict⟩
  · refine ⟨es ++ [.config x.1], by simp [hlog], by simp [hconfig, configStep], fun p o m hmem => ?_⟩
    exact ⟨(hconflict p o m (by simpa using hmem)).1, rfl⟩

/-- The E_CONFIG entries of a pass name its failed steps in order, and a conflict fails the module
reset. -/
theorem andAll_setupStep_log (fs : List SetupStep)
    {xs : List (SetupStep × (State → State × Bool))} (hxs : ∀ x ∈ xs, LogsAsStep x.1 x.2)
    (s : State) :
    ∃ es, (andAll (xs.map (setupStep fs)) s).1.log = s.log ++ es ∧
      es.filterMap configStep = failedSteps fs xs s ∧
      ∀ p o m, .bindConflict p o m ∈ es → .resetModules ∈ failedSteps fs xs s := by
  induction xs generalizing s with
  | nil => exact ⟨[], by simp, rfl, nofun⟩
  | cons x xs ih =>
    rw [List.forall_mem_cons] at hxs
    obtain ⟨es, hlog, hconfig, hconflict⟩ := setupStep_log fs hxs.1 s
    obtain ⟨es', hlog', hconfig', hconflict'⟩ := ih hxs.2 (setupStep fs x s).1
    refine ⟨es ++ es', by simp [hlog', hlog], by simp [hconfig, hconfig', failedSteps],
      fun p o m hmem => ?_⟩
    rw [failedSteps, List.mem_append]
    rcases List.mem_append.1 hmem with hmem | hmem
    · obtain ⟨hreset, hfail⟩ := hconflict p o m hmem
      simp [hreset, hfail]
    · exact .inr (hconflict' p o m hmem)

/-! ### What the pass leaves of modules, timers and liveness -/

section
variable (fs : List SetupStep) (x : SetupStep × (State → State × Bool)) (s : State)

@[simp] theorem setupStep_modules : (setupStep fs x s).1.modules = (x.2 s).1.modules := by
  rcases setupStep_cases fs x s with ⟨-, -, h⟩ | ⟨-, h⟩ <;> simp [h]

@[simp] theorem setupStep_bus : (setupStep fs x s).1.bus = (x.2 s).1.bus := by
  rcases setupStep_cases fs x s with ⟨-, -, h⟩ | ⟨-, h⟩ <;> simp [h]

@[simp] theorem setupStep_live : (setupStep fs x s).1.live = (x.2 s).1.live := by
  rcases setupStep_cases fs x s with ⟨-, -, h⟩ | ⟨-, h⟩ <;> simp [h]

end

/-! ### The boot sequence -/

section
variable (C : Params) (plan : BootPlan) (s : State)

theorem boot_live : (boot C plan s).1.live = (s.live && (boot C plan s).2) := by
  simp [boot, bootSteps, createModules_eq, outsideStep]

theorem boot_kinds :
    (boot C plan s).1.modules.map Module.kind = plan.modules.map Module.kind := by
  simp [boot, bootSteps, createModules_eq, outsideStep]

theorem boot_eq_true_iff :
    (boot C plan s).2 = true ↔ failedSteps plan.failures (bootSteps C plan) s = [] :=
  andAll_setupStep_iff

theorem bootSteps_names : (bootSteps C plan).map Prod.fst = setupOrder := rfl

end

section
variable {plan : BootPlan} {s : State}

/-- The interval pushed before RESET is not in force after it: there was no timer to take it (R451). -/
theorem boot_timers_of_block_alone (C : Params)
    (hkinds : plan.modules.map Module.kind = [.motherboard, .pic, .video])
    (h : s.bus.timers = []) :
    (boot C plan s).1.bus.timers = [Timer.mk 2 C.vgaUpdateIntervalUs true 0] := by
  simp only [boot, bootSteps, List.map_cons, List.map_nil, andAll_cons, andAll_nil, setupStep_bus,
    outsideStep, applyDebugs_bus]
  refine resetOp_timers_of_block_alone C ?_ ?_
  · simp [createModules_eq, hkinds]
  · rw [setupStep_bus, pushTiming_bus_of_no_timers] <;> simp [createModules_eq, h]

/-- Every step has its place in R450's order. -/
theorem mem_setupOrder (k : SetupStep) : k ∈ setupOrder := by
  cases k <;> decide

/-- A step the plan makes fail is one of the sequence, so it fails there. -/
theorem mem_failedSteps_boot (C : Params) {k : SetupStep} (hk : k ∈ plan.failures) :
    k ∈ failedSteps plan.failures (bootSteps C plan) s := by
  have hmem : k ∈ (bootSteps C plan).map Prod.fst := bootSteps_names C plan ▸ mem_setupOrder k
  obtain ⟨x, hx, rfl⟩ := List.mem_map.1 hmem
  exact mem_failedSteps_of_mem_failures hx hk

theorem createModules_mem_failedSteps (C : Params)
    (h : creationOrderOk (plan.modules.map Module.kind) = false) :
    .createModules ∈ failedSteps plan.failures (bootSteps C plan) s :=
  head_mem_failedSteps (x := (.createModules, createModules plan.modules)) (.inr h)

end

/-- Settles O60: the E_CONFIG entries are `failedSteps` of the sequence (`andAll_setupStep_log`), and each
clause is a fact about that list; the timer is `boot_timers_of_block_alone`. -/
theorem bootRecordsItsFailedSteps : Obligations.BootRecordsItsFailedSteps := by
  intro plan s
  obtain ⟨es, hlog, hconfig, hconflict⟩ :=
    andAll_setupStep_log plan.failures (bootSteps_logAsStep Config.params plan) s
  refine ⟨es, hlog, boot_live _ plan s, boot_kinds _ plan s, ?_⟩
  rw [hconfig]
  exact ⟨failedSteps_sublist _ (bootSteps Config.params plan) s, boot_eq_true_iff _ plan s,
    fun _ => mem_failedSteps_boot _, createModules_mem_failedSteps _,
    fun ⟨p, o, m, hmem⟩ => hconflict p o m hmem, boot_timers_of_block_alone _⟩

end Sys2Proof.Machine
end

section
/-! PROOF. RESET and STOP (70_reset_and_hazards.md R442-R447, R455): what a pass leaves of the adapter and of
the VGA's ports whatever the other modules' resets draw, and the whole state of a pass over the block
alone. -/

namespace Sys2Proof.Machine

theorem exec_callReset (s : State) :
    exec .callReset s = .next (answerBool (resetOp Config.params s)) := rfl

theorem exec_callStop (s : State) : exec .callStop s = .next ((stopOp s).answer .unit) := rfl

/-! ### The VGA after any pass with a video module -/

/-- The adapter has the values of R447 over the memory `planes`, and each of the 22 ports is bound. -/
structure VgaRestored (planes : Memory) (s : State) : Prop where
  vga : s.vga = vgaResetValue planes
  ports : ∀ p ∈ vgaPorts, s.bus.portOwner p ≠ none

/-- A bound port stays bound (40_bus.md R141). -/
theorem bindPort_keeps_bound (p : Port) (m : ModuleRef) {q : Port} {s : State}
    (h : s.bus.portOwner q ≠ none) : (bindPort p m s).1.bus.portOwner q ≠ none := by
  rw [portOwner_bindPort]
  split
  · exact Option.some_ne_none m
  · exact h

/-- A port asked for is bound afterwards, whether the bind conflicts or not. -/
theorem bindPort_bound (p : Port) (m : ModuleRef) (s : State) :
    (bindPort p m s).1.bus.portOwner p ≠ none := by
  rw [portOwner_bindPort]
  split
  · exact Option.some_ne_none m
  next hnone => simpa using hnone

theorem bindPorts_keeps_bound (m : ModuleRef) (ps : List Port) {q : Port} {s : State}
    (h : s.bus.portOwner q ≠ none) : (bindPorts m ps s).1.bus.portOwner q ≠ none :=
  andAll_keeps (P := fun t => t.bus.portOwner q ≠ none)
    (List.forall_mem_map.2 fun p _ _ => bindPort_keeps_bound p m) h

theorem bindPorts_bound (m : ModuleRef) {ps : List Port} {q : Port} (hq : q ∈ ps) (s : State) :
    (bindPorts m ps s).1.bus.portOwner q ≠ none := by
  induction ps generalizing s with
  | nil => cases hq
  | cons p ps ih =>
    rw [bindPorts_cons]
    rcases List.mem_cons.1 hq with rfl | hq
    · exact bindPorts_keeps_bound m ps (bindPort_bound q m s)
    · exact ih hq _

theorem bindPorts_vga (m : ModuleRef) (ps : List Port) (s : State) :
    (bindPorts m ps s).1.vga = s.vga :=
  andAll_keeps (P := fun t => t.vga = s.vga)
    (List.forall_mem_map.2 fun p _ t ht => (bindPort_vga p m t).trans ht) rfl

theorem requestTimer_portMap (C : Params) (m : ModuleRef) (i : Int) (a : Bool) (s : State) :
    (requestTimer C m i a s).bus.portMap = s.bus.portMap := by
  rcases requestTimer_cases C m i a s with ⟨k, -, h⟩ | ⟨-, h⟩ <;> rw [h] <;> rfl

theorem requestIrq_bus (C : Params) (m : ModuleRef) (s : State) :
    (requestIrq C m s).1.bus = s.bus := by
  rcases requestIrq_cases C m s with ⟨n, -, h⟩ | ⟨n, -, -, h⟩ | ⟨-, -, h⟩ <;> rw [h] <;> rfl

section
variable {planes : Memory} {s t : State}

/-- Being restored is a matter of the adapter and of the port map alone. -/
theorem VgaRestored.congr (h : VgaRestored planes s) (hvga : t.vga = s.vga)
    (hports : t.bus.portMap = s.bus.portMap) : VgaRestored planes t where
  vga := hvga.trans h.vga
  ports p hp := by
    rw [Bus.portOwner, hports]
    exact h.ports p hp

theorem requestTimer_keeps_vgaRestored (C : Params) (m : ModuleRef) (i : Int) (a : Bool)
    (h : VgaRestored planes s) : VgaRestored planes (requestTimer C m i a s) :=
  h.congr (requestTimer_vga C m i a s) (requestTimer_portMap C m i a s)

/-- The VGA's own reset restores it, whatever ports are bound before (R443). -/
theorem resetVideo_vgaRestored (C : Params) (m : ModuleRef) (s : State) :
    VgaRestored s.vga.planes (resetVideo C m s).1 := by
  have hbound : VgaRestored s.vga.planes
      (bindPorts m vgaPorts (s.setVga (vgaResetValue s.vga.planes))).1 :=
    ⟨bindPorts_vga .., fun _ hp => bindPorts_bound m hp _⟩
  simp only [resetVideo]
  exact requestTimer_keeps_vgaRestored C m _ true hbound

/-- No call another module's reset may make touches the adapter or takes a binding away (R442). -/
theorem applyResetCall_keeps_vgaRestored (C : Params) (c : ResetCall) (h : VgaRestored planes s) :
    VgaRestored planes (applyResetCall C c s).1 := by
  cases c with
  | bind p m =>
    exact ⟨(bindPort_vga p m s).trans h.vga, fun q hq => bindPort_keeps_bound p m (h.ports q hq)⟩
  | requestTimer m i a => exact requestTimer_keeps_vgaRestored C m i a h
  | requestIrq m => exact h.congr (requestIrq_vga C m s) (congrArg Bus.portMap (requestIrq_bus C m s))

theorem resetForeign_keeps_vgaRestored (C : Params) (h : VgaRestored planes s) :
    VgaRestored planes (resetForeign C s).1 := by
  have hdraw : VgaRestored planes s.countDraw := h.congr rfl rfl
  rw [resetForeign_eq]
  exact andAll_keeps
    (List.forall_mem_map.2 fun c _ _ => applyResetCall_keeps_vgaRestored C c) hdraw

/-- Once restored, the VGA stays so through every later module's reset, a second video module's too. -/
theorem resetModule_keeps_vgaRestored (C : Params) (k : ModuleType) (m : ModuleRef)
    (h : VgaRestored planes s) : VgaRestored planes (resetModule C k m s).1 := by
  rcases resetModule_cases C k m s with ⟨-, hr⟩ | ⟨-, hr⟩ | ⟨-, hr⟩ | ⟨-, -, -, hr⟩ <;> rw [hr]
  · have hplanes : s.vga.planes = planes := congrArg Vga.planes h.vga
    exact hplanes ▸ resetVideo_vgaRestored C m s
  · exact h.congr rfl rfl
  · exact h
  · exact resetForeign_keeps_vgaRestored C h

/-- Every module's reset keeps video memory (R443). -/
theorem resetModule_planes (C : Params) (k : ModuleType) (m : ModuleRef) (s : State) :
    (resetModule C k m s).1.vga.planes = s.vga.planes :=
  (resetModule_changesOnly (A := MayChange .callReset) C .resetLatch (fun _ => .resetRaised) m
    s).memory nofun

/-- A pass over a list with a video module restores the VGA: that module's reset does, the ones before it
keep the memory, the ones after it keep the VGA restored. -/
theorem resetModules_vgaRestored (C : Params) {xs : List Module} (h : HasKind xs .video)
    (m : ModuleRef) (s : State) : VgaRestored s.vga.planes (resetModules C xs m s).1 := by
  induction xs generalizing m s with
  | nil => simp [HasKind] at h
  | cons x xs ih =>
    rw [resetModules_cons]
    by_cases hx : x.kind = .video
    · rw [hx]
      exact andAll_keeps
        (List.forall_mem_map.2 fun y _ _ => resetModule_keeps_vgaRestored C y.1.kind y.2)
        (resetVideo_vgaRestored C m s)
    · obtain ⟨y, hy, hkind⟩ := h
      rcases List.mem_cons.1 hy with rfl | hy
      · exact absurd hkind hx
      · have hrest := ih ⟨y, hy, hkind⟩ (m + 1) (resetModule C x.kind m s).1
        rwa [resetModule_planes] at hrest

/-- Tearing the old bindings down first changes no video memory (R442, R443). -/
theorem resetOp_vgaRestored (C : Params) (h : HasKind s.modules .video) :
    VgaRestored s.vga.planes (resetOp C s).1 :=
  resetModules_vgaRestored C h 0 (s.setBus { s.bus with portMap := [] })

end

/-- The reset palette is black. -/
theorem paletteRead_vgaResetValue (planes : Memory) (a : Byte) (c : Fin 3) :
    paletteRead (vgaResetValue planes) a c = 0 := by
  simp [paletteRead, vgaResetValue, Vector.get_eq_getElem]

/-- Settles O46: RESET restores the VGA (`resetOp_vgaRestored`), and the values are those of
`vgaResetValue` over the memory as it was. -/
theorem resetRestoresTheVga : Obligations.ResetRestoresTheVga := by
  intro s hvideo
  obtain ⟨hvga, hports⟩ : VgaRestored s.vga.planes (answerBool (resetOp Config.params s)) :=
    (resetOp_vgaRestored Config.params hvideo).congr rfl rfl
  refine ⟨_, exec_callReset s, ?_⟩
  simp only [hvga, State.planeByte]
  exact ⟨rfl, rfl, rfl, rfl, fun _ => Vector.getElem_replicate, rfl,
    fun _ => Vector.getElem_replicate, rfl, fun _ => Vector.getElem_replicate,
    fun _ => Vector.getElem_replicate, rfl, rfl, rfl, fun _ => Vector.getElem_replicate, rfl, rfl,
    rfl, rfl, rfl, rfl, paletteRead_vgaResetValue _, fun _ => rfl, rfl, fun _ _ => rfl, hports⟩

/-! ### The block alone -/

/-- A positive interval is normalised to itself (40_bus.md R147). -/
theorem normalizeInterval_of_pos (C : Params) (m : ModuleRef) (n : ℕ+) :
    normalizeInterval C m (n : Nat) = n := by
  simp [normalizeInterval]

/-- With no port bound, the VGA's reset binds its 22 in ascending order without a conflict (R443). -/
theorem resetVideo_of_no_ports (C : Params) (m : ModuleRef) {s : State} (h : s.bus.portMap = []) :
    resetVideo C m s =
      (requestTimer C m (C.vgaUpdateIntervalUs : Nat) true
        { s with
          bus := { s.bus with portMap := vgaPorts.map fun p => (p.toNat, m) }
          vga := vgaResetValue s.vga.planes }, true) := by
  simp only [resetVideo]
  rw [bindPorts_ascending m vgaPorts (by decide) _ (by simp [h])]
  simp [State.setBus, State.setVga, h]

/-- The state a RESET of the block alone leaves, but for the VGA's timer and the answer: the VGA's ports
bound, the lines lowered, the adapter reset (R443-R446). -/
def blockReset (s : State) : State :=
  { s with
    bus := { s.bus with portMap := vgaPorts.map fun p => (p.toNat, 2) }
    pic := { s.pic with raised := Vector.replicate 16 false }
    vga := vgaResetValue s.vga.planes }

/-- The pass over motherboard, PIC and VGA: all that is left to say is what the timer request does. -/
theorem resetOp_of_block_alone (C : Params) {s : State} {mb pic video : Module}
    (hs : s.modules = [mb, pic, video]) (hmb : mb.kind = .motherboard) (hpic : pic.kind = .pic)
    (hvideo : video.kind = .video) :
    resetOp C s =
      (requestTimer C 2 (C.vgaUpdateIntervalUs : Nat) true (blockReset s), true) := by
  simp only [resetOp, hs, resetModules_cons, resetModules_nil, hmb, hpic, hvideo, resetModule,
    resetMotherboard, Nat.zero_add, Nat.reduceAdd]
  rw [resetVideo_of_no_ports C 2 rfl]
  rfl

/-- Settles O48: `resetOp_of_block_alone`, and the timer request by `requestTimer_of_none` at the first
RESET and by `requestTimer_of_entry` at a warm one. -/
theorem resetOfTheBlockAlone : Obligations.ResetOfTheBlockAlone := by
  intro s mb pic video hs hmb hpic hvideo
  simp only [exec_callReset, resetOp_of_block_alone Config.params hs hmb hpic hvideo]
  refine ⟨fun hnone => ?_, fun pre e post htimers howner hpre => ?_⟩
  · rw [requestTimer_of_none (s := blockReset s) hnone, normalizeInterval_of_pos]
    rfl
  · rw [requestTimer_of_entry (s := blockReset s) htimers howner hpre, normalizeInterval_of_pos]
    rfl

/-! ### The reset state -/

/-- In a port map that gives every port of a list to one module, each of them has that owner. -/
theorem cellLookup_map_of_mem {p : Port} {ps : List Port} (hp : p ∈ ps) (m : ModuleRef) :
    cellLookup p.toNat (ps.map fun q => (q.toNat, m)) = some m := by
  induction ps with
  | nil => cases hp
  | cons q ps ih =>
    rw [List.map_cons, cellLookup]
    split
    · rfl
    next hne => exact ih ((List.mem_cons.1 hp).resolve_left fun h => hne (h ▸ rfl))

/-- Settles O49: the fields are R447's by definition; the ports by `cellLookup_map_of_mem`. -/
theorem resetStateValues : Obligations.ResetStateValues := by
  have howner {p : Port} (hp : p ∈ vgaPorts) : State.reset.bus.portOwner p = some videoAtPowerOn :=
    cellLookup_map_of_mem hp videoAtPowerOn
  have hvideo : State.reset.isVideo videoAtPowerOn = true := by decide
  have hlow : State.reset.pic.intrPending = false := by decide
  exact ⟨rfl, rfl, rfl, rfl, rfl, rfl, rfl, rfl, rfl, hlow, fun p hp => by simp [howner hp, hvideo]⟩

/-! ### STOP -/

/-- An unfaulted state that is not live accepts nothing (R455). -/
theorem step_of_not_live {s : State} (hf : s.faulted = none) (hl : s.live = false) :
    step s = .refused .stopped := by
  simp [step, hf, hl]

/-- Settles O50: STOP clears the liveness flag alone, and `step_of_not_live`. -/
theorem stopEndsTheRun : Obligations.StopEndsTheRun :=
  fun s => ⟨_, exec_callStop s, rfl, fun hf _ => step_of_not_live hf rfl⟩

end Sys2Proof.Machine
end
